-- ==== Sys2Proof/Word.lean ====
section
/-! DEFINITION. The bit vectors the manual itself treats as bits: bytes, register words, addresses, lines, and the
blocks of memory it lays out byte by byte.  Little-endian throughout (R3): byte `k` of a block is its bits
`8k` to `8k + 7`. -/
namespace Sys2Proof

/-- One byte. -/
abbrev Byte := BitVec 8
/-- One register word of the register window (R158, R175). -/
abbrev Word32 := BitVec 32
/-- A 64-bit address or field. -/
abbrev Word64 := BitVec 64
/-- The 64 bytes of one cache line (R136), or the bytes a link message carries, first byte lowest. -/
abbrev Line := BitVec 512
/-- The 128 bytes of a descriptor (R13). -/
abbrev DescImage := BitVec 1024
/-- The 512 bytes of a context save block (R111). -/
abbrev CsbImage := BitVec 4096
/-- A set of the seven arithmetic conditions, in the order of the ACW flags (Table 3-1). -/
abbrev CondSet := BitVec 7
/-- A set of lanes 0 to 31 (R97). -/
abbrev LaneSet := BitVec 32

end Sys2Proof
end

