-- ==== Sys2Proof/Config.lean ====
section
/-! DEFINITION. What the Antumbra 240 fixes: the constants of its read-only registers and the sizes the rules name. -/
namespace Sys2Proof.Config

/-- ID (R176). -/
def idValue : Word32 := 0x02400101#32
/-- Capability (R176). -/
def capabilityValue : Word32 := 0x6C264C44#32
/-- ACW Capability Mask (R60): a 1 at every position that Table 3-1 defines. -/
def acwMask : Word32 := 0x000F7F7F#32
/-- The default ACW (R59). -/
def acwDefault : Word32 := 0x00007F00#32
/-- Response Timeout after power-on reset (R157). -/
def responseTimeoutReset : Nat := 10000
/-- Doze Delay after power-on reset (R160). -/
def dozeDelayReset : Nat := 32
/-- A channel's cap on data tags (R154). -/
def dataTagCap : Nat := 12
/-- Size of the data pool (R154): tags 0 to 27. -/
def dataTags : Nat := 28
/-- A sibling prefetch needs fewer data tags in use than this (R140). -/
def prefetchLimit : Nat := 24
/-- Entries of the eviction buffer (R143). -/
def evictEntries : Nat := 4
/-- Events the overflow FIFO holds (R131). -/
def fifoEvents : Nat := 8
/-- Commands a deferred list holds (R163). -/
def deferredCommands : Nat := 4
/-- Entries of a link stack (R23). -/
def linkEntries : Nat := 4
/-- Where the saturating 16-bit counters stop (R131, R140, R143, R157). -/
def counterMax : Nat := 65535
/-- The signature of a complete save (R111). -/
def csbSignature : Word32 := 0x0D5C0240#32

/-- How many actions of the part's own one command lets happen; what is left over goes on at the next command or
tick.  DESIGN CHOICE (log 6). -/
def settleFuel : Nat := 4096

end Sys2Proof.Config
end

