-- ==== Sys2Proof/Syntax.lean ====
section
/-! DEFINITION. The commands of the part: one constructor for each row of spec/opcode_table.json, with the row's
operands (log 31). -/
namespace Sys2Proof

/-- A channel number, 0 to 3. -/
abbrev Chan := Fin 4
/-- A request tag, 0 to 31: 0 to 27 data pool, 28 to 31 control pool (R154). -/
abbrev TagId := Fin 32
/-- A cache set, 0 to 127 (R136). -/
abbrev SetId := Fin 128
/-- A way of a set (R136), or an aperture of a channel (R90). -/
abbrev WayId := Fin 4

/-- Which word of a 64-bit register is written. -/
inductive Half where
  | low | high
  deriving DecidableEq, Repr

/-- The grant a Data response carries (Table 9-1). -/
inductive Grant where
  | shared | exclusive
  deriving DecidableEq, Repr

/-- The two reasons of a Fail (R151), and the expiry of the response timeout (R156). -/
inductive FailReason where
  | memoryError | decodeError | timeout
  deriving DecidableEq, Repr

/-- A response of the host (Table 9-1).  A Data's bytes are the low bytes of `data`: exactly the line or the span
that was requested (R151; log 4). -/
inductive Response where
  | data (grant : Grant) (bytes : Line)
  | done
  | fail (reason : FailReason)
  deriving DecidableEq, Repr

/-- The commands, in the order of spec/opcode_table.json.  A row that is a Device Control write carries the other
bits of the word written; a row that is a response carries the tag and generation it names. -/
inductive Instr where
  -- resets and power (R160 to R174)
  | powerOnReset
  | deviceReset (word : Word32)
  | softInit (word : Word32)
  | quiesce (word : Word32)
  | quiesceRelease (word : Word32)
  | dormant (word : Word32)
  | wake (word : Word32)
  | wakeComplete
  | interruptEnable (on : Bool)
  -- Cache Control (R140, R146)
  | flushAndInvalidate (prefetch : Bool)
  | siblingPrefetchEnable (on : Bool)
  -- Channel Command (R27 to R31, R102 to R106, R114, R117)
  | enable (c : Chan)
  | disable (c : Chan)
  | reset (c : Chan)
  | park (c : Chan)
  | unpark (c : Chan)
  | resumeRetry (c : Chan)
  | resumeSkip (c : Chan)
  | resumeSubstitute (c : Chan)
  | resumeAbandon (c : Chan)
  -- doorbells and channel configuration (R7, R8, R61, R88, R90, R110, R120)
  | ringProducer (c : Chan) (value : Word32)
  | expediteProducer (c : Chan) (value : Word32)
  | ringSize (c : Chan) (value : Word32)
  | expediteSize (c : Chan) (value : Word32)
  | ringBase (c : Chan) (half : Half) (value : Word32)
  | expediteBase (c : Chan) (half : Half) (value : Word32)
  | compact (c : Chan) (on : Bool)
  | csbAddress (c : Chan) (half : Half) (value : Word32)
  | apertureBase (c : Chan) (a : WayId) (half : Half) (value : Word32)
  | apertureLimit (c : Chan) (a : WayId) (half : Half) (value : Word32)
  | apertureControl (c : Chan) (a : WayId) (value : Word32)
  | acw (c : Chan) (value : Word32)
  -- event queue, counters and status (R129 to R131, R149, R157, R177, R179)
  | eventQueueSize (value : Word32)
  | eventQueueBase (half : Half) (value : Word32)
  | eventHead (value : Word32)
  | lostEvents (value : Word32)
  | lateResponseCount (value : Word32)
  | lostWriteBackCount (value : Word32)
  | siblingPrefetchFailCount (value : Word32)
  | deviceStatus (value : Word32)
  | channelStatus (c : Chan) (value : Word32)
  -- general register writes (R158)
  | partialRegisterWrite (offset : BitVec 12) (enables : BitVec 4) (value : Word32)
  | registerWrite (offset : BitVec 12) (value : Word32)
  -- probes (R147)
  | probeShare (address : Word64)
  | probeInvalidate (address : Word64)
  -- the beat arbiter (R33)
  | beatGrant
  -- responses that carry data or Done (R151)
  | fetchSharedData (tag : TagId) (gen : Bool) (grant : Grant) (bytes : Line)
  | siblingPrefetchData (tag : TagId) (gen : Bool) (grant : Grant) (bytes : Line)
  | fetchOwnedData (tag : TagId) (gen : Bool) (grant : Grant) (bytes : Line)
  | upgradeDone (tag : TagId) (gen : Bool)
  | upgradeData (tag : TagId) (gen : Bool) (grant : Grant) (bytes : Line)
  | readDirectData (tag : TagId) (gen : Bool) (grant : Grant) (bytes : Line)
  | descriptorHalfData (tag : TagId) (gen : Bool) (grant : Grant) (bytes : Line)
  | csbReadData (tag : TagId) (gen : Bool) (grant : Grant) (bytes : Line)
  | bypassWriteDone (tag : TagId) (gen : Bool)
  | completionRecordDone (tag : TagId) (gen : Bool)
  | csbWriteDone (tag : TagId) (gen : Bool)
  | eventRecordDone (tag : TagId) (gen : Bool)
  | writelineDone (tag : TagId) (gen : Bool)
  -- Fail responses (R101)
  | fetchFail (tag : TagId) (gen : Bool) (reason : FailReason)
  | siblingPrefetchFail (tag : TagId) (gen : Bool) (reason : FailReason)
  | descriptorFetchFail (tag : TagId) (gen : Bool) (reason : FailReason)
  | csbReadFail (tag : TagId) (gen : Bool) (reason : FailReason)
  | bypassWriteFail (tag : TagId) (gen : Bool) (reason : FailReason)
  | completionRecordFail (tag : TagId) (gen : Bool) (reason : FailReason)
  | csbWriteFail (tag : TagId) (gen : Bool) (reason : FailReason)
  | eventRecordFail (tag : TagId) (gen : Bool) (reason : FailReason)
  | writelineFail (tag : TagId) (gen : Bool) (reason : FailReason)
  -- late responses and timed events (R157, R161)
  | lateResponse (tag : TagId) (gen : Bool) (resp : Response)
  | responseTimeout (tag : TagId)
  | doze
  -- the part's own scheduled events (R145, R130)
  | sweepSet
  | eventRecordWrite
  deriving DecidableEq, Repr

end Sys2Proof
end

