-- ==== Sys2Proof/WellFormed.lean ====
section
/-! DEFINITION. Which terms of `Instr` are commands the host can send: a Bool, one check a line. -/
namespace Sys2Proof

/-- A Device Control word without the Device Reset action bit: with it the write is the row DEVICE_RESET (R160). -/
def noDeviceReset (word : Word32) : Bool := !word[7]

/-- A Fail response carries MemoryError or DecodeError; Timeout is the part's own (R151, R156). -/
def linkReason (r : FailReason) : Bool := r != .timeout

/-- Registers lie at offsets that are multiples of 4 (R158). -/
def wordOffset (offset : BitVec 12) : Bool := offset &&& 3#12 == 0#12

/-- The checks. -/
def Instr.wellFormed : Instr → Bool
  | .softInit w | .quiesce w | .quiesceRelease w | .dormant w | .wake w => noDeviceReset w
  | .partialRegisterWrite off en _ => wordOffset off && en != 0xF#4
  | .registerWrite off _ => wordOffset off
  | .fetchFail _ _ r | .siblingPrefetchFail _ _ r | .descriptorFetchFail _ _ r | .csbReadFail _ _ r
  | .bypassWriteFail _ _ r | .completionRecordFail _ _ r | .csbWriteFail _ _ r | .eventRecordFail _ _ r
  | .writelineFail _ _ r => linkReason r
  | .lateResponse _ _ (.fail r) => linkReason r
  | .lateResponse _ _ _ => true
  | .powerOnReset | .deviceReset _ | .wakeComplete | .interruptEnable _ | .flushAndInvalidate _
  | .siblingPrefetchEnable _ | .enable _ | .disable _ | .reset _ | .park _ | .unpark _ | .resumeRetry _
  | .resumeSkip _ | .resumeSubstitute _ | .resumeAbandon _ | .ringProducer _ _ | .expediteProducer _ _
  | .ringSize _ _ | .expediteSize _ _ | .ringBase _ _ _ | .expediteBase _ _ _ | .compact _ _ | .csbAddress _ _ _
  | .apertureBase _ _ _ _ | .apertureLimit _ _ _ _ | .apertureControl _ _ _ | .acw _ _ | .eventQueueSize _
  | .eventQueueBase _ _ | .eventHead _ | .lostEvents _ | .lateResponseCount _ | .lostWriteBackCount _
  | .siblingPrefetchFailCount _ | .deviceStatus _ | .channelStatus _ _ | .probeShare _ | .probeInvalidate _
  | .beatGrant | .fetchSharedData _ _ _ _ | .siblingPrefetchData _ _ _ _ | .fetchOwnedData _ _ _ _
  | .upgradeDone _ _ | .upgradeData _ _ _ _ | .readDirectData _ _ _ _ | .descriptorHalfData _ _ _ _
  | .csbReadData _ _ _ _ | .bypassWriteDone _ _ | .completionRecordDone _ _ | .csbWriteDone _ _
  | .eventRecordDone _ _ | .writelineDone _ _ | .responseTimeout _ | .doze | .sweepSet | .eventRecordWrite => true

end Sys2Proof
end

