-- ==== Sys2Proof/Machine/State.lean ====
section
/-! DEFINITION. The state of the part, as plain data, and its value after power-on reset (Table 11-1). -/
namespace Sys2Proof.Machine

/-- Table 1-1: the eleven channel states. -/
inductive ChState where
  | disabled | idle | running | waiting | draining | faulted | saving | parked | expediting | restoring | error
  deriving DecidableEq, Repr

/-- The rejection reasons of R179, in the order of their codes 0 to 23. -/
inductive Reason where
  | none | unknownCommand | configWrongState | ringSizeInvalid | ringBaseMisaligned | csbMisaligned
  | producerOutOfRange | producerBehindFetch | alreadyEnabled | resetInProgress | ringNotConfigured
  | disableWrongState | acwWrongState | acwReservedBit | notFaulted | resumeNotAllowed | parkWrongState
  | alreadyParked | noCsb | unparkWrongState | channelInError | deviceFatal | deferredFull | parkPending
  deriving DecidableEq, Repr

/-- The error causes of R109 and R118, in the order of their codes 0 to 10 (R127). -/
inductive ErrCause where
  | none | completionWriteFailed | csbWriteFailed | csbReadFailed | badSignature | reservedFieldSet
  | ringPositionMismatch | linkStackInvalid | descriptorStateInvalid | restartChoiceIllegal | acwInvalid
  deriving DecidableEq, Repr

/-- The nine commands of Channel Command (R178). -/
inductive ChanCmd where
  | enable | disable | reset | park | unpark | resumeRetry | resumeSkip | resumeSubstitute | resumeAbandon
  deriving DecidableEq, Repr

/-- Where a descriptor came from, in the order of the codes of R125 and R180 (0 none). -/
inductive RingId where
  | none | normal | list | expedite
  deriving DecidableEq, Repr

/-- Fault kinds, in the order of the codes of R127 (0 none). -/
inductive FaultKind where
  | none | arithmetic | address | memory | descriptor | descriptorFetch | link | control
  deriving DecidableEq, Repr

/-- Fault sub-kinds, in the order of the codes of R127. -/
inductive SubKind where
  | none | overflow | misaligned | aperture | memoryError | decodeError | timeout | underflow
  deriving DecidableEq, Repr

/-- Fault phases, in the order of the codes of R127. -/
inductive FaultPhase where
  | none | pre | post | access | commit
  deriving DecidableEq, Repr

/-- The streams a fault may name, in the order of the codes of R180. -/
inductive StreamId where
  | none | a | b | c | d | index
  deriving DecidableEq, Repr

/-- The fault record of R97. -/
structure FaultRec where
  valid    : Bool
  ring     : RingId
  location : Word64
  kind     : FaultKind
  sub      : SubKind
  phase    : FaultPhase
  beat     : Nat
  lanes    : LaneSet
  conds    : CondSet
  stream   : StreamId
  address  : Word64
  deriving DecidableEq, Repr

/-- One of the two rings of a channel (R7 to R9). -/
structure Ring where
  base     : Word64
  size     : Nat
  producer : Nat
  consumer : Nat
  fetch    : Nat
  deriving DecidableEq, Repr

/-- An aperture (R90): `limit` holds FFFH in its low 12 bits. -/
structure Aperture where
  base    : Word64
  limit   : Word64
  control : BitVec 3
  deriving DecidableEq, Repr

/-- The two kinds of a link stack entry (R23). -/
inductive LinkKind where
  | ringPosition | listAddress
  deriving DecidableEq, Repr

/-- An entry of the link stack (R23). -/
structure LinkEntry where
  kind : LinkKind
  next : Word64
  held : Nat
  deriving DecidableEq, Repr

/-- A bypass destination write that failed and is not yet reported (R100): its beat, each of its lanes with the
lane's address, and the failure. -/
structure FailedWrite where
  beat   : Nat
  lanes  : List (Nat × Nat)
  reason : FailReason
  deriving DecidableEq, Repr

/-- The current descriptor and, for an OPERATION, its job (R12, R17). -/
structure Current where
  image     : DescImage
  ring      : RingId
  location  : Word64
  beat      : Nat
  committed : Nat
  skipped   : Nat
  faults    : Nat
  flags     : CondSet
  fails     : List FailedWrite
  deriving DecidableEq, Repr

/-- One half of a descriptor fetch (R12). -/
inductive FetchHalf where
  | waiting
  | got (bytes : Line)
  | failed (reason : FailReason)
  deriving DecidableEq, Repr

/-- The completion statuses of R125, in the order of the codes 1 to 5. -/
inductive Status where
  | completed | completedWithSkips | abandoned | empty | skipped
  deriving DecidableEq, Repr

/-- How far the channel is with its current descriptor (R10, R17). -/
inductive Phase where
  | choose                                  -- step 1 of R10: no descriptor taken
  | taking                                  -- the next fetch waits for its first data tag: nothing taken yet (R9, R155)
  | fetching (lo hi : FetchHalf)            -- R12
  | ready                                   -- validated, not yet executed
  | job                                     -- an OPERATION with beats to commit (R17)
  | ending                                  -- all beats committed: waiting for bypass writes (R17 step 1)
  | fence                                   -- R20
  | flushing (sweep : Option Nat)           -- R21: queued, or the number of its sweep
  | completing (status : Status) (issued : Bool)   -- R17 step 2: the completion record write
  | drained                                 -- the last descriptor of a Draining channel has ended (R30)
  deriving DecidableEq, Repr

/-- The origin of a save (R111). -/
inductive Origin where
  | explicit | automatic
  deriving DecidableEq, Repr

/-- How expedite work began (R121, R122). -/
inductive ExpFrom where
  | saved | idle | parked
  deriving DecidableEq, Repr

/-- What a channel does before a claimed park may begin: the attempt that a Resume command owes (R103, R105), or what
Continue gives a restored descriptor at once (R119; log 36). -/
inductive Owed where
  | none | ordinary | fullMasked | restored
  deriving DecidableEq, Repr

/-- A save in progress (R113): the stage whose writes are outstanding. -/
structure Save where
  origin  : Origin
  stage   : Nat
  address : Word64
  image   : CsbImage
  deriving DecidableEq, Repr

/-- A restore in progress (R117): the lines of the block read so far. -/
structure Restore where
  byUnpark : Bool
  address  : Word64
  image    : CsbImage
  missing  : List Nat
  deriving DecidableEq, Repr

/-- One channel. -/
structure Channel where
  state        : ChState
  heldQuiesce  : Bool
  heldFatal    : Bool
  resetDraining : Bool
  pendingPark  : Bool
  reason       : Reason
  doorbellOut  : Bool
  acwRejected  : Bool
  cause        : ErrCause
  compact      : Bool
  acw          : Word32
  shadow       : Option Word32
  normal       : Ring
  expedite     : Ring
  csbAddress   : Word64
  apertures    : Vector Aperture 4
  listPos      : Option Word64
  links        : List LinkEntry            -- top first
  current      : Option Current
  phase        : Phase
  claim        : Option Origin             -- R115
  expFrom      : Option ExpFrom
  owedAttempt  : Owed
  resumeExpedite : Bool                    -- resume state: Expediting (true) or Running (false) (R96)
  fault        : FaultRec
  pendingFault : Option FaultRec           -- R96: waits for the job's bypass writes
  save         : Option Save
  restore      : Option Restore
  deferred     : List ChanCmd              -- R163
  progressOwed : Bool                      -- R165
  deriving DecidableEq, Repr

/-- Line states of R136. -/
inductive LineState where
  | invalid | shared | exclusive | dirty
  deriving DecidableEq, Repr

/-- One 64-byte line with its transient markers (R136). -/
structure CacheLine where
  state   : LineState
  bytes   : Line
  fill    : Bool
  upgrade : Bool
  pinned  : Bool
  deriving DecidableEq, Repr

/-- One way: a sector of two lines under one tag (R136). -/
structure CacheWay where
  tagValid : Bool
  tag      : Nat
  lower    : CacheLine
  upper    : CacheLine
  deriving DecidableEq, Repr

/-- One set, most recently used way first (R137). -/
structure CacheSet where
  ways : Vector CacheWay 4
  lru  : List WayId
  deriving DecidableEq, Repr

/-- An eviction buffer entry (R143): line number (address / 64), bytes, and the sweep that made it, if one did. -/
structure EvictEntry where
  line  : Nat
  bytes : Line
  sweep : Option Nat
  deriving DecidableEq, Repr

/-- Who asked for a sweep (R145, R146, R167). -/
inductive SweepKind where
  | flush (c : Chan) | command | dormantEntry
  deriving DecidableEq, Repr

/-- A request in the sweep queue (R144): its kind, and whether it entered the queue at the present place. -/
structure SweepReq where
  kind  : SweepKind
  fresh : Bool
  deriving DecidableEq, Repr

/-- The sweep in progress: its number, its kind, and the next set. -/
structure Sweep where
  number : Nat
  kind   : SweepKind
  next   : Nat
  deriving DecidableEq, Repr

/-- The operand cache (Chapter 8). -/
structure Cache where
  sets        : Vector CacheSet 128
  evict       : List EvictEntry            -- oldest first
  sweep       : Option Sweep
  queue       : List SweepReq              -- oldest first
  commandSweeps : List Nat                 -- Flush and Invalidate sweeps begun and not done (R146)
  nextSweep   : Nat
  flushDone   : Bool
  prefetchOn  : Bool
  lostWriteBacks : Nat
  prefetchFails  : Nat
  deriving DecidableEq, Repr

/-- Event kinds, in the order of their codes 1 to 11 (Table 7-3). -/
inductive EventKind where
  | jobComplete | jobFault | parked | unparked | unparkFailed | channelError | quiesceAck | dormantAck | wakeAck
  | deviceError | eventsLost
  deriving DecidableEq, Repr

/-- An event (R127).  `channel` is none for the power controller and the operand cache. -/
structure Event where
  kind     : EventKind
  channel  : Option Chan
  ring     : RingId
  auto     : Bool
  sequence : BitVec 16
  status   : BitVec 16
  location : Word64
  detail   : Word64
  deriving DecidableEq, Repr

/-- The event engine (Chapter 7). -/
structure Engine where
  base     : Word64
  size     : Nat
  tail     : Nat
  head     : Nat
  fifo     : List Event                    -- oldest first
  lossMark : Option Nat                    -- the count the mark carries; it stands behind `fifo`
  lost     : Nat
  sequence : BitVec 16
  fatal    : Bool
  asserted : Bool                          -- the interrupt level
  deriving DecidableEq, Repr

/-- Request kinds of Table 9-1. -/
inductive ReqKind where
  | fetchShared | fetchOwned | upgrade | writeLine | readDirect | writePartial
  deriving DecidableEq, Repr

/-- Owners of requests (R154). -/
inductive Owner where
  | channel (c : Chan) | cache | engine
  deriving DecidableEq, Repr

/-- What a request is for: the traffic classes of Table 9-2. -/
inductive Purpose where
  | read (stream : StreamId) (tagMiss : Bool)     -- source element or index entry
  | prefetch
  | acquire                                       -- cached destination line
  | descriptor (upper : Bool)
  | bypass (beat : Nat) (lanes : List (Nat × Nat))
  | record (event : Option Event)                 -- completion record, and the event to post at its Done
  | csbSave
  | csbRead (index : Nat)
  | event (live : Bool)                           -- not live: disabled by a write of size 0 (R129)
  | writeBack
  deriving DecidableEq, Repr

/-- A request of the part (R151).  `address` is the line's address, or of the first byte of a span. -/
structure Req where
  kind    : ReqKind
  address : Nat
  span    : Nat
  mask    : BitVec 64
  bytes   : Line
  owner   : Owner
  purpose : Purpose
  orphan  : Bool           -- its channel has been reset, or has given the request up: no outcome for it
  waited  : Bool           -- it has waited on an eviction buffer entry (R143)
  fresh   : Bool           -- it became ready at the present place in the total order (R155)
  deriving DecidableEq, Repr

/-- Tag states of R154. -/
inductive TagState where
  | free | outstanding | retired
  deriving DecidableEq, Repr

/-- The record of an outstanding request (R154, R157). -/
structure TagRec where
  req     : Req
  timeout : Nat
  count   : Nat
  deriving DecidableEq, Repr

/-- A request tag (R154). -/
structure Tag where
  state : TagState
  gen   : Bool
  stale : Bool
  record : Option TagRec
  deriving DecidableEq, Repr

/-- The link interface (Chapter 9). -/
structure Link where
  tags            : Vector Tag 32
  waiting         : List Req               -- oldest first
  responseTimeout : Nat
  lateCount       : Nat
  deriving DecidableEq, Repr

/-- Device power states (Table 10-1). -/
inductive PowerState where
  | active | doze | quiescing | quiesced | dormantEntry | dormant | waking
  deriving DecidableEq, Repr

/-- How far a Dormant-Entry is (R167). -/
inductive DormantStep where
  | none | waiting | sweeping (number : Nat) | acknowledged
  deriving DecidableEq, Repr

/-- Reset Cause (R169). -/
inductive ResetCause where
  | powerOn | deviceReset | softInit
  deriving DecidableEq, Repr

/-- The power controller and the device registers (Chapters 10 to 12). -/
structure Device where
  power       : PowerState
  quiesce     : Bool
  irqEnable   : Bool
  dozeDelay   : Nat
  dozeTimer   : Nat
  dormantStep : DormantStep
  softInit    : Bool                       -- a Soft Init is draining (R172)
  cause       : ResetCause
  partialWrite : Bool
  dormantAccess : Bool
  powerRejected : Bool
  eventConfigRejected : Bool
  eventHeadRejected   : Bool
  deriving DecidableEq, Repr

/-- A read of the gather stage (R39): how far it is. -/
inductive AccessState where
  | todo
  | onFill (own : Bool)
  | onDirect
  | got (value : Nat)
  | failed (reason : FailReason)
  deriving DecidableEq, Repr

/-- One element or index entry that a beat reads.  `stream` is the stream it belongs to; in the index stage it is
the Indexed stream whose table is read. -/
structure Access where
  lane    : Nat
  stream  : StreamId
  address : Nat
  size    : Nat
  cached  : Bool
  state   : AccessState
  deriving DecidableEq, Repr

/-- How far the acquisition of a cached destination line is (R141). -/
inductive AcqState where
  | open_ | issued | fallback | failed (reason : FailReason)
  deriving DecidableEq, Repr

/-- A cached destination line of a beat (R141). -/
structure Acq where
  line  : Nat
  state : AcqState
  deriving DecidableEq, Repr

/-- The stages of a granted beat (R39, R93, R141). -/
inductive BeatStage where
  | index | source | scatter
  deriving DecidableEq, Repr

/-- A destination lane: lane number, address, value. -/
structure DestLane where
  lane    : Nat
  address : Nat
  value   : Nat
  deriving DecidableEq, Repr

/-- The beat that holds the grant (R32). -/
structure Beat where
  chan       : Chan
  fullMasked : Bool
  stage      : BeatStage
  accesses   : List Access
  indices    : List (Nat × StreamId × Nat)   -- lane, stream, index entry (R93 step 2)
  dest       : List DestLane
  conds      : CondSet                       -- P and Q of the attempt (R75, R76)
  acqs       : List Acq
  touched    : List (SetId × WayId)          -- ways already moved to the front in this step (R137)
  deriving DecidableEq, Repr

/-- Answers to a probe (R147). -/
inductive ProbeAnswer where
  | miss | hitClean | hitDirty (bytes : Line) | inTransit
  deriving DecidableEq, Repr

/-- A message the part sends (R151, R152). -/
inductive Message where
  | request (tag : TagId) (gen : Bool) (req : Req)
  | interruptAssert
  | interruptDeassert
  | probeResp (answer : ProbeAnswer)
  | regDone
  deriving DecidableEq, Repr

/-- What draws on the event engine at one place in the total order (R128, R131): an event to be numbered and posted, an
event that already has its number, or the write of a completion record (`some`) or event record (`none`) just issued. -/
inductive PlaceItem where
  | post (v : Event)
  | numbered (v : Event)
  | write (tag : TagId) (channel : Option Chan)
  deriving DecidableEq, Repr

/-- The whole part, and the queue of waiting commands. -/
structure State where
  device   : Device
  chans    : Vector Channel 4
  normalPtr   : Chan                       -- R33
  expeditePtr : Chan
  beat     : Option Beat
  cache    : Cache
  link     : Link
  engine   : Engine
  place    : List PlaceItem                -- of the command in progress; empty between commands (log 6)
  sent     : List Message                  -- messages of the last command, oldest first
  pending  : List Instr                    -- commands waiting, first in, first out
  deriving DecidableEq, Repr

/-- There is no fault that stops the block: channel faults, Error, Fatal and lost write-backs are effects on State
(R96, R109, R133, R143).  Nobody raises a member of this type, which is safe. -/
inductive Fault where
  deriving DecidableEq, Repr

/-- Why a command is not carried out. -/
inductive Refusal where
  /-- The command has no meaning in the model.  No arm of `exec` raises it.  Safe. -/
  | notModelled (mnemonic : String)
  deriving DecidableEq, Repr

/-- The fault record after every reset (R97). -/
def FaultRec.reset : FaultRec :=
  { valid := false, ring := .none, location := 0, kind := .none, sub := .none, phase := .none, beat := 0, lanes := 0,
    conds := 0, stream := .none, address := 0 }

/-- A ring after power-on reset (Table 11-1). -/
def Ring.reset : Ring := { base := 0, size := 0, producer := 0, consumer := 0, fetch := 0 }

/-- An aperture after power-on reset (R90): the stored limit is 0 and its low 12 bits read FFFH. -/
def Aperture.reset : Aperture := { base := 0, limit := 0xFFF, control := 0 }

/-- A channel after power-on reset (Table 11-1). -/
def Channel.reset : Channel :=
  { state := .disabled, heldQuiesce := false, heldFatal := false, resetDraining := false, pendingPark := false,
    reason := .none, doorbellOut := false, acwRejected := false, cause := .none, compact := false,
    acw := Config.acwDefault, shadow := none, normal := .reset, expedite := .reset, csbAddress := 0,
    apertures := Vector.replicate 4 .reset, listPos := none, links := [], current := none, phase := .choose,
    claim := none, expFrom := none, owedAttempt := .none, resumeExpedite := false, fault := .reset,
    pendingFault := none, save := none, restore := none, deferred := [], progressOwed := false }

/-- An Invalid line with no marker (R136). -/
def CacheLine.reset : CacheLine := { state := .invalid, bytes := 0, fill := false, upgrade := false, pinned := false }

/-- A way after power-on reset (R136). -/
def CacheWay.reset : CacheWay := { tagValid := false, tag := 0, lower := .reset, upper := .reset }

/-- A set after power-on reset (R136, R137). -/
def CacheSet.reset : CacheSet := { ways := Vector.replicate 4 .reset, lru := [0, 1, 2, 3] }

/-- The operand cache after power-on reset (R150). -/
def Cache.reset : Cache :=
  { sets := Vector.replicate 128 .reset, evict := [], sweep := none, queue := [], commandSweeps := [], nextSweep := 0,
    flushDone := false, prefetchOn := true, lostWriteBacks := 0, prefetchFails := 0 }

/-- The event engine after power-on reset (R135). -/
def Engine.reset : Engine :=
  { base := 0, size := 0, tail := 0, head := 0, fifo := [], lossMark := none, lost := 0, sequence := 1, fatal := false,
    asserted := false }

/-- A tag after power-on reset (R159). -/
def Tag.reset : Tag := { state := .free, gen := false, stale := false, record := none }

/-- The link interface after power-on reset (R159). -/
def Link.reset : Link :=
  { tags := Vector.replicate 32 .reset, waiting := [], responseTimeout := Config.responseTimeoutReset, lateCount := 0 }

/-- The power controller after power-on reset (R160, R169, R174). -/
def Device.reset : Device :=
  { power := .active, quiesce := false, irqEnable := false, dozeDelay := Config.dozeDelayReset, dozeTimer := 0,
    dormantStep := .none, softInit := false, cause := .powerOn, partialWrite := false, dormantAccess := false,
    powerRejected := false, eventConfigRejected := false, eventHeadRejected := false }

/-- The part right after power-on reset (R170, Table 11-1). -/
def State.reset : State :=
  { device := .reset, chans := Vector.replicate 4 .reset, normalPtr := 3, expeditePtr := 3, beat := none,
    cache := .reset, link := .reset, engine := .reset, place := [], sent := [], pending := [] }

end Sys2Proof.Machine
end

