-- ==== Sys2Proof/Machine/Bits.lean ====
section
/-! DEFINITION. Bit-field and byte helpers.  Little-endian (R3): byte `k` of a block is its bits `8k` to `8k + 7`. -/
namespace Sys2Proof.Machine

/-- The `n` bytes of a block from byte `off`, as a number. -/
def bytesAt {w : Nat} (x : BitVec w) (off n : Nat) : Nat := (x >>> (8 * off)).toNat % 2 ^ (8 * n)

/-- The bits `lo` to `lo + n - 1` of a number. -/
def bitsAt (x lo n : Nat) : Nat := (x >>> lo) % 2 ^ n

/-- A block with the `n` bytes from byte `off` replaced by the low bytes of `v`. -/
def putBytes {w : Nat} (x : BitVec w) (off n v : Nat) : BitVec w :=
  let mask : BitVec w := BitVec.ofNat w (2 ^ (8 * n) - 1) <<< (8 * off)
  (x &&& ~~~mask) ||| ((BitVec.ofNat w (v % 2 ^ (8 * n))) <<< (8 * off))

/-- A 64-bit register with one of its two words replaced (R7, R88, R90, R110, R129). -/
def putHalf (x : Word64) (half : Half) (v : Word32) : Word64 :=
  match half with
  | .low => x.extractLsb' 32 32 ++ v
  | .high => v ++ x.extractLsb' 0 32

/-- One word of a 64-bit register. -/
def getHalf (x : Word64) (half : Half) : Word32 :=
  match half with
  | .low => x.extractLsb' 0 32
  | .high => x.extractLsb' 32 32

/-- One bit as a word, at a place. -/
def flagAt (b : Bool) (place : Nat) : Word32 := if b then 1#32 <<< place else 0#32

/-- A small number as a field of a word, at a place. -/
def fieldAt (n place : Nat) : Word32 := BitVec.ofNat 32 n <<< place

/-- A 64-byte mask naming the `n` bytes from byte `off` (R142). -/
def byteMask (off n : Nat) : BitVec 64 := BitVec.ofNat 64 (2 ^ n - 1) <<< off

/-- Add one to a counter that saturates at 65,535. -/
def satSucc (n : Nat) : Nat := min (n + 1) Config.counterMax

/-- Add `k` to a counter that saturates at 65,535. -/
def satAdd (n k : Nat) : Nat := min (n + k) Config.counterMax

/-- The set bits of a 7-bit condition set, one condition. -/
def CondSet.of (place : Nat) : CondSet := 1#7 <<< place

/-- The channels in the order every rule takes them (R128, R155). -/
def allChans : List Chan := [0, 1, 2, 3]

/-- The ways in the order R145 visits them. -/
def allWays : List WayId := [0, 1, 2, 3]

/-- The request tags, lowest first. -/
def allTags : List TagId :=
  [0, 1, 2, 3, 4, 5, 6, 7, 8, 9, 10, 11, 12, 13, 14, 15, 16, 17, 18, 19, 20, 21, 22, 23, 24, 25, 26, 27, 28, 29, 30, 31]

/-- A number below 128 as a set. -/
def setOf (n : Nat) : SetId := ⟨n % 128, Nat.mod_lt _ (by decide)⟩

end Sys2Proof.Machine
end

