-- ==== Sys2Proof/Machine/Flags.lean ====
section
/-! DEFINITION. The seven arithmetic conditions, the fields of the ACW (R59, Table 3-1), and the codes and status words
that software reads (R125, R127, R177 to R180). -/
namespace Sys2Proof.Machine

/-- IV: invalid operation. -/
def condIV : CondSet := 0b0000001#7
/-- DN: denormal input. -/
def condDN : CondSet := 0b0000010#7
/-- DZ: divide by zero. -/
def condDZ : CondSet := 0b0000100#7
/-- OV: overflow. -/
def condOV : CondSet := 0b0001000#7
/-- UN: underflow. -/
def condUN : CondSet := 0b0010000#7
/-- IX: inexact result. -/
def condIX : CondSet := 0b0100000#7
/-- SA: saturation. -/
def condSA : CondSet := 0b1000000#7

/-- A condition set, or none. -/
def condIf (b : Bool) (c : CondSet) : CondSet := if b then c else 0

/-- The four rounding directions (Table 3-1). -/
inductive Rounding where
  | nearest | down | up | zero
  deriving DecidableEq, Repr

/-- The rounding direction field, bits 16 and 17. -/
def acwRounding (acw : Word32) : Rounding :=
  match acw[17], acw[16] with
  | false, false => .nearest
  | false, true => .down
  | true, false => .up
  | true, true => .zero

/-- The masks of the ACW as a set of masked conditions, bits 8 to 14. -/
def acwMasks (acw : Word32) : CondSet := acw.extractLsb' 8 7

/-- The sticky flags of the ACW, bits 0 to 6. -/
def acwFlags (acw : Word32) : CondSet := acw.extractLsb' 0 7

/-- TIZ, bit 18 (R72). -/
def acwTiz (acw : Word32) : Bool := acw[18]

/-- TRF, bit 19 (R73). -/
def acwTrf (acw : Word32) : Bool := acw[19]

/-- Set flags without clearing any (R77). -/
def acwSetFlags (acw : Word32) (c : CondSet) : Word32 := acw ||| c.setWidth 32

/-- The conditions of a set whose mask is 0 (R75, R76). -/
def unmasked (acw : Word32) (c : CondSet) : CondSet := c &&& ~~~(acwMasks acw)

/-- A value the capability mask admits (R60): no 1 where the mask has a 0. -/
def acwLegal (v : Word32) : Bool := v &&& ~~~Config.acwMask == 0#32

/-- SET CONTROL's update of the ACW (R63): each bit selected by the update mask takes the Immediate's bit. -/
def acwUpdate (acw mask imm : Word32) : Word32 := (acw &&& ~~~mask) ||| (imm &&& mask)

/-- Codes of the channel states (R179). -/
def ChState.code : ChState → Nat
  | .disabled => 0 | .idle => 1 | .running => 2 | .waiting => 3 | .draining => 4 | .faulted => 5 | .saving => 6
  | .parked => 7 | .expediting => 8 | .restoring => 9 | .error => 10

/-- Codes of the rejection reasons (R179). -/
def Reason.code : Reason → Nat
  | .none => 0 | .unknownCommand => 1 | .configWrongState => 2 | .ringSizeInvalid => 3 | .ringBaseMisaligned => 4
  | .csbMisaligned => 5 | .producerOutOfRange => 6 | .producerBehindFetch => 7 | .alreadyEnabled => 8
  | .resetInProgress => 9 | .ringNotConfigured => 10 | .disableWrongState => 11 | .acwWrongState => 12
  | .acwReservedBit => 13 | .notFaulted => 14 | .resumeNotAllowed => 15 | .parkWrongState => 16
  | .alreadyParked => 17 | .noCsb => 18 | .unparkWrongState => 19 | .channelInError => 20 | .deviceFatal => 21
  | .deferredFull => 22 | .parkPending => 23

/-- Codes of the error causes (R127). -/
def ErrCause.code : ErrCause → Nat
  | .none => 0 | .completionWriteFailed => 1 | .csbWriteFailed => 2 | .csbReadFailed => 3 | .badSignature => 4
  | .reservedFieldSet => 5 | .ringPositionMismatch => 6 | .linkStackInvalid => 7 | .descriptorStateInvalid => 8
  | .restartChoiceIllegal => 9 | .acwInvalid => 10

/-- Codes of the rings (R125, R180). -/
def RingId.code : RingId → Nat
  | .none => 0 | .normal => 1 | .list => 2 | .expedite => 3

/-- Codes of the fault kinds (R127). -/
def FaultKind.code : FaultKind → Nat
  | .none => 0 | .arithmetic => 1 | .address => 2 | .memory => 3 | .descriptor => 4 | .descriptorFetch => 5
  | .link => 6 | .control => 7

/-- Codes of the sub-kinds (R127). -/
def SubKind.code : SubKind → Nat
  | .none => 0 | .overflow => 1 | .misaligned => 2 | .aperture => 3 | .memoryError => 4 | .decodeError => 5
  | .timeout => 6 | .underflow => 7

/-- Codes of the phases (R127). -/
def FaultPhase.code : FaultPhase → Nat
  | .none => 0 | .pre => 1 | .post => 2 | .access => 3 | .commit => 4

/-- Codes of the streams (R180). -/
def StreamId.code : StreamId → Nat
  | .none => 0 | .a => 1 | .b => 2 | .c => 3 | .d => 4 | .index => 5

/-- Codes of the completion statuses (R125). -/
def Status.code : Status → Nat
  | .completed => 1 | .completedWithSkips => 2 | .abandoned => 3 | .empty => 4 | .skipped => 5

/-- Codes of the event kinds (Table 7-3). -/
def EventKind.code : EventKind → Nat
  | .jobComplete => 1 | .jobFault => 2 | .parked => 3 | .unparked => 4 | .unparkFailed => 5 | .channelError => 6
  | .quiesceAck => 7 | .dormantAck => 8 | .wakeAck => 9 | .deviceError => 10 | .eventsLost => 11

/-- The sub-kind a failed request gives (R97, R156). -/
def FailReason.sub : FailReason → SubKind
  | .memoryError => .memoryError
  | .decodeError => .decodeError
  | .timeout => .timeout

/-- The command codes of Channel Command (R178). -/
def ChanCmd.ofCode (v : Word32) : Option ChanCmd :=
  match v.toNat with
  | 1 => some .enable
  | 2 => some .disable
  | 3 => some .reset
  | 4 => some .park
  | 5 => some .unpark
  | 6 => some .resumeRetry
  | 7 => some .resumeSkip
  | 8 => some .resumeSubstitute
  | 9 => some .resumeAbandon
  | _ => none

/-- The code of a command (R178). -/
def ChanCmd.code : ChanCmd → Word32
  | .enable => 1 | .disable => 2 | .reset => 3 | .park => 4 | .unpark => 5 | .resumeRetry => 6 | .resumeSkip => 7
  | .resumeSubstitute => 8 | .resumeAbandon => 9

/-- Reset Cause's codes (R176). -/
def ResetCause.code : ResetCause → Nat
  | .powerOn => 1 | .deviceReset => 2 | .softInit => 3

/-- The status field of a Job Fault event (Table 7-3): byte 6 the kind, byte 7 the sub-kind and the phase. -/
def FaultRec.eventStatus (f : FaultRec) : BitVec 16 :=
  BitVec.ofNat 16 (f.kind.code + 256 * (f.sub.code + 16 * f.phase.code))

/-- The seven Fault Record words (R180). -/
def FaultRec.word (f : FaultRec) (i : Nat) : Word32 :=
  match i with
  | 0 => flagAt f.valid 0 ||| fieldAt f.ring.code 1 ||| fieldAt f.kind.code 4 ||| fieldAt f.sub.code 8
      ||| fieldAt f.phase.code 12 ||| fieldAt f.stream.code 16 ||| fieldAt f.conds.toNat 24
  | 1 => f.lanes
  | 2 => BitVec.ofNat 32 f.beat
  | 3 => getHalf f.location .low
  | 4 => getHalf f.location .high
  | 5 => getHalf f.address .low
  | 6 => getHalf f.address .high
  | _ => 0

end Sys2Proof.Machine
end

