-- ==== Sys2Proof/Machine/Formats.lean ====
section
/-! DEFINITION. Element formats, operations and predicates (R34 to R37, R41, R42). -/
namespace Sys2Proof.Machine

/-- The families of Table 2-1. -/
inductive Family where
  | signedWrap | unsignedWrap | signedSat | unsignedSat | float
  deriving DecidableEq, Repr

/-- An element format: its family and its element size in bytes. -/
structure Format where
  family : Family
  size   : Nat
  deriving DecidableEq, Repr

/-- The format codes of Table 2-1, 01H to 12H. -/
def Format.ofCode (code : Nat) : Option Format :=
  match code with
  | 1 => some ⟨.signedWrap, 1⟩
  | 2 => some ⟨.signedWrap, 2⟩
  | 3 => some ⟨.signedWrap, 4⟩
  | 4 => some ⟨.signedWrap, 8⟩
  | 5 => some ⟨.unsignedWrap, 1⟩
  | 6 => some ⟨.unsignedWrap, 2⟩
  | 7 => some ⟨.unsignedWrap, 4⟩
  | 8 => some ⟨.unsignedWrap, 8⟩
  | 9 => some ⟨.signedSat, 1⟩
  | 10 => some ⟨.signedSat, 2⟩
  | 11 => some ⟨.signedSat, 4⟩
  | 12 => some ⟨.signedSat, 8⟩
  | 13 => some ⟨.unsignedSat, 1⟩
  | 14 => some ⟨.unsignedSat, 2⟩
  | 15 => some ⟨.unsignedSat, 4⟩
  | 16 => some ⟨.unsignedSat, 8⟩
  | 17 => some ⟨.float, 4⟩
  | 18 => some ⟨.float, 8⟩
  | _ => none

/-- Bits of an element. -/
def Format.bits (f : Format) : Nat := 8 * f.size

/-- Signed formats hold two's-complement values (R35). -/
def Format.isSigned (f : Format) : Bool := f.family == .signedWrap || f.family == .signedSat

/-- Saturating formats (R35). -/
def Format.isSat (f : Format) : Bool := f.family == .signedSat || f.family == .unsignedSat

/-- Floating-point formats (R36). -/
def Format.isFloat (f : Format) : Bool := f.family == .float

/-- The I and U families, which Table 2-4 calls together. -/
def Format.isWrap (f : Format) : Bool := f.family == .signedWrap || f.family == .unsignedWrap

/-- The least value of an integer format (Table 2-1). -/
def Format.minValue (f : Format) : Int := if f.isSigned then -(2 ^ (f.bits - 1) : Nat) else 0

/-- The greatest value of an integer format (Table 2-1). -/
def Format.maxValue (f : Format) : Int :=
  if f.isSigned then (2 ^ (f.bits - 1) : Nat) - 1 else (2 ^ f.bits : Nat) - 1

/-- The value of an integer element (R35). -/
def Format.value (f : Format) (raw : Nat) : Int :=
  if f.isSigned && raw ≥ 2 ^ (f.bits - 1) then (raw : Int) - (2 ^ f.bits : Nat) else raw

/-- The element whose value is congruent to `x` modulo 2^n (R35, wrapping formats). -/
def Format.wrap (f : Format) (x : Int) : Nat := (x % (2 ^ f.bits : Nat)).toNat

/-- An exact result in an integer format, and whether it was clamped (R35). -/
def Format.store (f : Format) (x : Int) : Nat × Bool :=
  if f.isSat then
    if x < f.minValue then (f.wrap f.minValue, true)
    else if f.maxValue < x then (f.wrap f.maxValue, true)
    else (f.wrap x, false)
  else (f.wrap x, false)

/-- The operations of Table 2-3. -/
inductive Operation where
  | copy | fill | add | subtract | multiply | divide | sqrt | min | max | mulAdd | compare | convert | and | or | xor
  | andNot
  deriving DecidableEq, Repr

/-- The operation codes of Table 2-3; the field has 4 bits. -/
def Operation.ofCode (code : Nat) : Operation :=
  match code % 16 with
  | 0 => .copy
  | 1 => .fill
  | 2 => .add
  | 3 => .subtract
  | 4 => .multiply
  | 5 => .divide
  | 6 => .sqrt
  | 7 => .min
  | 8 => .max
  | 9 => .mulAdd
  | 10 => .compare
  | 11 => .convert
  | 12 => .and
  | 13 => .or
  | 14 => .xor
  | _ => .andNot

/-- The predicates of Table 2-3. -/
inductive Predicate where
  | eq | ne | lt | le | gt | ge | unord | ord
  deriving DecidableEq, Repr

/-- The predicate codes of Table 2-3. -/
def Predicate.ofCode (code : Nat) : Option Predicate :=
  match code with
  | 1 => some .eq
  | 2 => some .ne
  | 3 => some .lt
  | 4 => some .le
  | 5 => some .gt
  | 6 => some .ge
  | 7 => some .unord
  | 8 => some .ord
  | _ => none

/-- The source streams an operation reads (Table 2-4), in the order A, B, C. -/
def Operation.sources : Operation → List StreamId
  | .fill => []
  | .copy | .sqrt | .convert => [.a]
  | .mulAdd => [.a, .b, .c]
  | .add | .subtract | .multiply | .divide | .min | .max | .compare | .and | .or | .xor | .andNot => [.a, .b]

/-- The combinations of Table 2-4.  `src` is none for code 00H. -/
def formatsLegal (op : Operation) (src : Option Format) (dst : Format) : Bool :=
  match op, src with
  | .fill, none => true
  | .fill, some _ => false
  | _, none => false
  | .copy, some s => s == dst
  | .add, some s | .subtract, some s | .multiply, some s => s == dst
  | .divide, some s | .min, some s | .max, some s | .mulAdd, some s => (s.isWrap || s.isFloat) && s == dst
  | .sqrt, some s => s.isFloat && s == dst
  | .compare, some s => (s.isWrap || s.isFloat) && dst == ⟨.unsignedWrap, s.size⟩
  | .convert, some _ => true
  | .and, some s | .or, some s | .xor, some s | .andNot, some s => s == dst

/-- The lane count L of a job (R37). -/
def laneCount (src : Option Format) (dst : Format) : Nat :=
  match src with
  | none => 32 / dst.size
  | some s => 32 / max s.size dst.size

/-- The number of beats of a job (R17, R37). -/
def beatCount (length lanes : Nat) : Nat := (length + lanes - 1) / lanes

end Sys2Proof.Machine
end

