-- ==== Sys2Proof/Machine/Floats.lean ====
section
/-! DEFINITION. Binary floating point (R36, R49 to R53, R67, R68, R73): classes, exact results, one rounding. -/
namespace Sys2Proof.Machine

/-- The two floating-point layouts of R36, by fraction and exponent width. -/
structure FloatFmt where
  fracBits : Nat
  expBits  : Nat
  deriving DecidableEq, Repr

/-- F32 for 4-byte elements, F64 for 8-byte elements. -/
def FloatFmt.ofSize (size : Nat) : FloatFmt := if size == 4 then ⟨23, 8⟩ else ⟨52, 11⟩

/-- The exponent bias b (R36). -/
def FloatFmt.bias (p : FloatFmt) : Int := (2 ^ (p.expBits - 1) : Nat) - 1
/-- The all-ones biased exponent E. -/
def FloatFmt.expMax (p : FloatFmt) : Nat := 2 ^ p.expBits - 1
/-- The exponent of the smallest normal magnitude, 1 - b. -/
def FloatFmt.minExp (p : FloatFmt) : Int := 1 - p.bias
/-- The exponent of the last fraction bit of a denormal. -/
def FloatFmt.quantum (p : FloatFmt) : Int := p.minExp - p.fracBits
/-- The encoding of +∞. -/
def FloatFmt.infinity (p : FloatFmt) : Nat := p.expMax <<< p.fracBits
/-- The sign bit as a number. -/
def FloatFmt.signBit (p : FloatFmt) : Nat := 2 ^ (p.fracBits + p.expBits)
/-- The top fraction bit. -/
def FloatFmt.quietBit (p : FloatFmt) : Nat := 2 ^ (p.fracBits - 1)
/-- The canonical quiet NaN (R36). -/
def FloatFmt.canonicalNaN (p : FloatFmt) : Nat := p.signBit + p.infinity + p.quietBit

/-- An encoding with a sign. -/
def FloatFmt.signed (p : FloatFmt) (neg : Bool) (magnitude : Nat) : Nat :=
  if neg then p.signBit + magnitude else magnitude

/-- The sign of an element. -/
def FloatFmt.sign (p : FloatFmt) (x : Nat) : Bool := x / p.signBit % 2 == 1
/-- An element without its sign. -/
def FloatFmt.magnitude (p : FloatFmt) (x : Nat) : Nat := x % p.signBit
/-- The biased exponent of an element. -/
def FloatFmt.exponent (p : FloatFmt) (x : Nat) : Nat := p.magnitude x >>> p.fracBits
/-- The fraction of an element. -/
def FloatFmt.fraction (p : FloatFmt) (x : Nat) : Nat := x % 2 ^ p.fracBits

/-- The classes of R36. -/
inductive FloatClass where
  | zero | denormal | normal | infinity | quietNaN | signallingNaN
  deriving DecidableEq, Repr

/-- The class of an element (R36). -/
def FloatFmt.classify (p : FloatFmt) (x : Nat) : FloatClass :=
  let e := p.exponent x
  let f := p.fraction x
  if e == 0 then (if f == 0 then .zero else .denormal)
  else if e == p.expMax then
    (if f == 0 then .infinity else if p.quietBit ≤ f then .quietNaN else .signallingNaN)
  else .normal

/-- A NaN of either sort. -/
def FloatFmt.isNaN (p : FloatFmt) (x : Nat) : Bool :=
  p.classify x == .quietNaN || p.classify x == .signallingNaN

/-- A signalling NaN. -/
def FloatFmt.isSignalling (p : FloatFmt) (x : Nat) : Bool := p.classify x == .signallingNaN

/-- A NaN made quiet (R36). -/
def FloatFmt.quiet (p : FloatFmt) (x : Nat) : Nat := x ||| p.quietBit

/-- The replacement of a denormal by a zero of its sign under TIZ (R72). -/
def FloatFmt.flushInput (p : FloatFmt) (tiz : Bool) (x : Nat) : Nat :=
  if tiz && p.classify x == .denormal then p.signed (p.sign x) 0 else x

/-- The significand of a finite element: its value is significand × 2^scale. -/
def FloatFmt.significand (p : FloatFmt) (x : Nat) : Nat :=
  if p.exponent x == 0 then p.fraction x else p.fraction x + 2 ^ p.fracBits
/-- The scale of a finite element. -/
def FloatFmt.scale (p : FloatFmt) (x : Nat) : Int :=
  p.quantum + (if p.exponent x == 0 then 0 else (p.exponent x : Int) - 1)

/-- An exact non-zero magnitude with a sign: `m × 2^e`, or, with `sticky`, a value strictly between that and
`(m + 1) × 2^e`, where `m` has more bits than any format keeps. -/
structure Exact where
  neg    : Bool
  m      : Nat
  e      : Int
  sticky : Bool
  deriving DecidableEq, Repr

/-- A rounded magnitude: its encoding as if the exponent range were unbounded above, and whether it differs from the
exact value. -/
structure Rounded where
  code    : Nat
  inexact : Bool
  deriving DecidableEq, Repr

/-- Whether rounding goes away from zero, from the part dropped (R49): `rest` of `2 ^ shift` dropped, with `sticky`
something more. -/
def roundsAway (dir : Rounding) (neg : Bool) (keptOdd : Bool) (rest shift : Nat) (sticky : Bool) : Bool :=
  let inexact := rest != 0 || sticky
  match dir with
  | .nearest =>
    if shift == 0 then false
    else
      let half := 2 ^ (shift - 1)
      rest > half || (rest == half && (sticky || keptOdd))
  | .down => neg && inexact
  | .up => !neg && inexact
  | .zero => false

/-- The one rounding of R49 to a format's values, denormals and zeros included. -/
def FloatFmt.round (p : FloatFmt) (dir : Rounding) (x : Exact) : Rounded :=
  let top : Int := x.e + Nat.log2 x.m
  let q : Int := max (top - p.fracBits) p.quantum
  let shift : Nat := (q - x.e).toNat
  let kept : Nat := if q ≤ x.e then x.m <<< (x.e - q).toNat else x.m >>> shift
  let rest : Nat := if q ≤ x.e then 0 else x.m % 2 ^ shift
  let away := roundsAway dir x.neg (kept % 2 == 1) rest shift x.sticky
  let k := if away then kept + 1 else kept
  let code :=
    if k < 2 ^ p.fracBits then k else ((q - p.quantum).toNat + 1) * 2 ^ p.fracBits + (k - 2 ^ p.fracBits)
  { code := code, inexact := rest != 0 || x.sticky }

/-- Tiny: the exact magnitude lies below the smallest normal magnitude (Section 3.3.5). -/
def FloatFmt.isTiny (p : FloatFmt) (x : Exact) : Bool := x.e + Nat.log2 x.m < p.minExp

/-- The masked overflow response (R67). -/
def FloatFmt.overflowResponse (p : FloatFmt) (dir : Rounding) (neg : Bool) : Nat :=
  let toInf := match dir with
    | .nearest => true
    | .down => neg
    | .up => !neg
    | .zero => false
  p.signed neg (if toInf then p.infinity else p.infinity - 1)

/-- What the numeric unit works under: the rounding direction, TIZ, TRF and whether UN is masked (R59, R78). -/
structure NumCtx where
  dir      : Rounding
  tiz      : Bool
  trf      : Bool
  unMasked : Bool
  deriving DecidableEq, Repr

/-- A lane's outcome: pre-computation conditions, post-computation conditions, and the value delivered when they are
all masked (R74). -/
structure LaneOut where
  pre   : CondSet
  post  : CondSet
  value : Nat
  deriving DecidableEq, Repr

/-- A lane that raises nothing. -/
def LaneOut.plain (v : Nat) : LaneOut := { pre := 0, post := 0, value := v }

/-- Round an exact non-zero result and judge OV, UN and IX (R67 to R69, R73). -/
def FloatFmt.finish (p : FloatFmt) (ctx : NumCtx) (x : Exact) : LaneOut :=
  let r := p.round ctx.dir x
  if p.infinity ≤ r.code then
    { pre := 0, post := condOV ||| condIX, value := p.overflowResponse ctx.dir x.neg }
  else if p.isTiny x then
    if !ctx.unMasked then
      { pre := 0, post := condUN ||| condIf r.inexact condIX, value := p.signed x.neg r.code }
    else if ctx.trf then
      { pre := 0, post := condUN ||| condIX, value := p.signed x.neg 0 }
    else
      { pre := 0, post := condIf r.inexact (condUN ||| condIX), value := p.signed x.neg r.code }
  else { pre := 0, post := condIf r.inexact condIX, value := p.signed x.neg r.code }

/-- The exact sum of two finite values `(neg, m, e)`; none when it is zero. -/
def exactSum (n₁ : Bool) (m₁ : Nat) (e₁ : Int) (n₂ : Bool) (m₂ : Nat) (e₂ : Int) : Option Exact :=
  let e := min e₁ e₂
  let a : Int := (m₁ <<< (e₁ - e).toNat : Nat)
  let b : Int := (m₂ <<< (e₂ - e).toNat : Nat)
  let s := (if n₁ then -a else a) + (if n₂ then -b else b)
  if s = 0 then none else some { neg := s < 0, m := s.natAbs, e := e, sticky := false }

/-- The sign of a zero sum (R49): the common sign of two zeros, else + but - toward minus infinity. -/
def zeroSumSign (dir : Rounding) (n₁ n₂ bothZero : Bool) : Bool :=
  if bothZero && n₁ == n₂ then n₁ else dir == .down

/-- The largest `r` with `r * r ≤ n`, found bit by bit from bit `k - 1` down. -/
def sqrtBits (n : Nat) : Nat → Nat → Nat
  | 0, r => r
  | k + 1, r =>
    let t := r + 2 ^ k
    sqrtBits n k (if t * t ≤ n then t else r)

/-- The integer square root. -/
def intSqrt (n : Nat) : Nat := sqrtBits n (Nat.log2 n / 2 + 1) 0

/-- The exact quotient of two finite non-zero magnitudes, to 66 bits or more and a sticky bit. -/
def exactQuotient (neg : Bool) (m₁ : Nat) (e₁ : Int) (m₂ : Nat) (e₂ : Int) : Exact :=
  let n := m₁ <<< 128
  { neg := neg, m := n / m₂, e := e₁ - e₂ - 128, sticky := n % m₂ != 0 }

/-- The exact square root of a finite non-zero magnitude, to 64 bits or more and a sticky bit. -/
def exactSqrt (m : Nat) (e : Int) : Exact :=
  let odd := e % 2 != 0
  let n := (if odd then m <<< 1 else m) <<< 128
  let e' := (if odd then e - 1 else e) - 128
  let r := intSqrt n
  { neg := false, m := r, e := e' / 2, sticky := r * r != n }

/-- The order key of a non-NaN element for Min and Max: -0 below +0 (R53). -/
def FloatFmt.orderKey (p : FloatFmt) (x : Nat) : Int :=
  if p.sign x then -(p.magnitude x : Int) - 1 else p.magnitude x

/-- The numeric key of a non-NaN element for Compare: the zeros equal (R54). -/
def FloatFmt.numericKey (p : FloatFmt) (x : Nat) : Int :=
  if p.sign x then -(p.magnitude x : Int) else p.magnitude x

/-- Round a finite value to an integer (R57): the integer, and whether it differs from the value. -/
def FloatFmt.toInteger (p : FloatFmt) (dir : Rounding) (x : Nat) : Int × Bool :=
  let m := p.significand x
  let e := p.scale x
  let neg := p.sign x
  let shift := (-e).toNat
  let kept := if 0 ≤ e then m <<< e.toNat else m >>> shift
  let rest := if 0 ≤ e then 0 else m % 2 ^ shift
  let k := if roundsAway dir neg (kept % 2 == 1) rest shift false then kept + 1 else kept
  (if neg then -(k : Int) else k, rest != 0)

end Sys2Proof.Machine
end

