-- ==== Sys2Proof/Machine/Lanes.lean ====
section
/-! DEFINITION. The numeric unit: what one active lane raises and delivers (R43 to R58, R64 to R74). -/
namespace Sys2Proof.Machine

/-- The first NaN among the sources, made quiet (R51). -/
def firstNaN (p : FloatFmt) (xs : List Nat) : Option Nat := (xs.find? p.isNaN).map p.quiet

/-- DN (R65): any source is a denormal, none of which reaches the unit under TIZ. -/
def denormalInput (p : FloatFmt) (xs : List Nat) : CondSet :=
  condIf (xs.any fun x => p.classify x == .denormal) condDN

/-- The lane of an operation whose sources hold a NaN (R51, R64). -/
def nanLane (p : FloatFmt) (xs : List Nat) (nan : Nat) : LaneOut :=
  { pre := condIf (xs.any p.isSignalling) condIV ||| denormalInput p xs, post := 0, value := nan }

/-- The lane of an invalid combination: the canonical quiet NaN (R50, R64). -/
def invalidLane (p : FloatFmt) (xs : List Nat) : LaneOut :=
  { pre := condIV ||| denormalInput p xs, post := 0, value := p.canonicalNaN }

/-- A lane with DN, if any source is a denormal, added. -/
def withDenormal (p : FloatFmt) (xs : List Nat) (l : LaneOut) : LaneOut :=
  { l with pre := l.pre ||| denormalInput p xs }

/-- A sum of two finite or infinite values given as sign, infinite, significand, scale (R49, R50, R64).  `none` is
the invalid sum of opposite infinities. -/
def sumLane (p : FloatFmt) (ctx : NumCtx) (n₁ inf₁ : Bool) (m₁ : Nat) (e₁ : Int) (n₂ inf₂ : Bool) (m₂ : Nat)
    (e₂ : Int) : Option LaneOut :=
  match inf₁, inf₂ with
  | true, true => if n₁ == n₂ then some (.plain (p.signed n₁ p.infinity)) else none
  | true, false => some (.plain (p.signed n₁ p.infinity))
  | false, true => some (.plain (p.signed n₂ p.infinity))
  | false, false =>
    match exactSum n₁ m₁ e₁ n₂ m₂ e₂ with
    | some x => some (p.finish ctx x)
    | none => some (.plain (p.signed (zeroSumSign ctx.dir n₁ n₂ (m₁ == 0 && m₂ == 0)) 0))

/-- Add, and Subtract with the sign of B reversed (R49, R50, R64). -/
def addLane (p : FloatFmt) (ctx : NumCtx) (subtract : Bool) (a b : Nat) : LaneOut :=
  match firstNaN p [a, b] with
  | some v => nanLane p [a, b] v
  | none =>
    match sumLane p ctx (p.sign a) (p.classify a == .infinity) (p.significand a) (p.scale a)
        (p.sign b != subtract) (p.classify b == .infinity) (p.significand b) (p.scale b) with
    | some l => withDenormal p [a, b] l
    | none => invalidLane p [a, b]

/-- Multiply (R49, R50, R64). -/
def mulLane (p : FloatFmt) (ctx : NumCtx) (a b : Nat) : LaneOut :=
  match firstNaN p [a, b] with
  | some v => nanLane p [a, b] v
  | none =>
    let neg := p.sign a != p.sign b
    let infA := p.classify a == .infinity
    let infB := p.classify b == .infinity
    let zeroA := p.classify a == .zero
    let zeroB := p.classify b == .zero
    if (infA && zeroB) || (zeroA && infB) then invalidLane p [a, b]
    else withDenormal p [a, b] (
      if infA || infB then .plain (p.signed neg p.infinity)
      else if zeroA || zeroB then .plain (p.signed neg 0)
      else p.finish ctx
        { neg := neg, m := p.significand a * p.significand b, e := p.scale a + p.scale b, sticky := false })

/-- Divide (R49, R50, R64, R66). -/
def divLane (p : FloatFmt) (ctx : NumCtx) (a b : Nat) : LaneOut :=
  match firstNaN p [a, b] with
  | some v => nanLane p [a, b] v
  | none =>
    let neg := p.sign a != p.sign b
    let infA := p.classify a == .infinity
    let infB := p.classify b == .infinity
    let zeroA := p.classify a == .zero
    let zeroB := p.classify b == .zero
    if (infA && infB) || (zeroA && zeroB) then invalidLane p [a, b]
    else withDenormal p [a, b] (
      if infA then .plain (p.signed neg p.infinity)
      else if infB then .plain (p.signed neg 0)
      else if zeroB then { pre := condDZ, post := 0, value := p.signed neg p.infinity }
      else if zeroA then .plain (p.signed neg 0)
      else p.finish ctx (exactQuotient neg (p.significand a) (p.scale a) (p.significand b) (p.scale b)))

/-- Square root (R52, R64). -/
def sqrtLane (p : FloatFmt) (ctx : NumCtx) (a : Nat) : LaneOut :=
  match firstNaN p [a] with
  | some v => nanLane p [a] v
  | none =>
    if p.classify a == .zero then .plain a
    else if p.sign a then invalidLane p [a]
    else if p.classify a == .infinity then .plain a
    else withDenormal p [a] (p.finish ctx (exactSqrt (p.significand a) (p.scale a)))

/-- Fused multiply-add: one rounding, the product's sign taking part in the sum (R49, R50, R64). -/
def mulAddLane (p : FloatFmt) (ctx : NumCtx) (a b c : Nat) : LaneOut :=
  match firstNaN p [a, b, c] with
  | some v => nanLane p [a, b, c] v
  | none =>
    let neg := p.sign a != p.sign b
    let infA := p.classify a == .infinity
    let infB := p.classify b == .infinity
    let zeroA := p.classify a == .zero
    let zeroB := p.classify b == .zero
    if (infA && zeroB) || (zeroA && infB) then invalidLane p [a, b, c]
    else
      match sumLane p ctx neg (infA || infB) (p.significand a * p.significand b) (p.scale a + p.scale b)
          (p.sign c) (p.classify c == .infinity) (p.significand c) (p.scale c) with
      | some l => withDenormal p [a, b, c] l
      | none => invalidLane p [a, b, c]

/-- Floating-point Min and Max (R53, R64). -/
def minMaxLane (p : FloatFmt) (isMax : Bool) (a b : Nat) : LaneOut :=
  if p.isNaN a || p.isNaN b then
    { pre := condIf (p.isSignalling a || p.isSignalling b) condIV ||| denormalInput p [a, b], post := 0,
      value := if p.isSignalling b then p.quiet b else b }
  else
    let aFirst := p.orderKey a ≤ p.orderKey b
    withDenormal p [a, b] (.plain (if isMax then (if aFirst then b else a) else (if aFirst then a else b)))

/-- The four relations of R54. -/
inductive Relation where
  | less | equal | greater | unordered
  deriving DecidableEq, Repr

/-- The relation of two integers. -/
def relationOf (x y : Int) : Relation := if x < y then .less else if x = y then .equal else .greater

/-- Table 2-6. -/
def Predicate.holds : Predicate → Relation → Bool
  | .eq, .equal => true
  | .ne, .less | .ne, .greater | .ne, .unordered => true
  | .lt, .less => true
  | .le, .less | .le, .equal => true
  | .gt, .greater => true
  | .ge, .equal | .ge, .greater => true
  | .unord, .unordered => true
  | .ord, .less | .ord, .equal | .ord, .greater => true
  | _, _ => false

/-- The predicates that raise IV for any NaN (R64). -/
def Predicate.signalsOnNaN : Predicate → Bool
  | .lt | .le | .gt | .ge => true
  | .eq | .ne | .unord | .ord => false

/-- Every bit set, or every bit clear (R54). -/
def truthElement (size : Nat) (t : Bool) : Nat := if t then 2 ^ (8 * size) - 1 else 0

/-- Floating-point Compare (R54, R64). -/
def compareLane (p : FloatFmt) (size : Nat) (pred : Predicate) (a b : Nat) : LaneOut :=
  let nan := p.isNaN a || p.isNaN b
  let signalling := p.isSignalling a || p.isSignalling b
  let rel := if nan then .unordered else relationOf (p.numericKey a) (p.numericKey b)
  { pre := condIf (signalling || (nan && pred.signalsOnNaN)) condIV ||| denormalInput p [a, b], post := 0,
    value := truthElement size (pred.holds rel) }

/-- A result in an integer format: SA where it was clamped (R46, R55, R70). -/
def storeLane (dst : Format) (x : Int) : LaneOut :=
  let r := dst.store x
  { pre := 0, post := condIf r.2 condSA, value := r.1 }

/-- Integer division (R47, R66). -/
def intDivLane (f : Format) (a b : Nat) : LaneOut :=
  if b == 0 then { pre := condDZ, post := 0, value := 0 }
  else .plain (f.wrap ((f.value a).tdiv (f.value b)))

/-- Convert from an integer to a floating-point format (R56). -/
def intToFloatLane (p : FloatFmt) (ctx : NumCtx) (x : Int) : LaneOut :=
  if x = 0 then .plain 0
  else p.finish ctx { neg := x < 0, m := x.natAbs, e := 0, sticky := false }

/-- The fraction of a NaN carried into another layout (R56): zeros below when widening, the top bits when narrowing. -/
def moveNaN (s d : FloatFmt) (x : Nat) : Nat :=
  let f := if s.fracBits ≤ d.fracBits then s.fraction x <<< (d.fracBits - s.fracBits)
           else s.fraction x >>> (s.fracBits - d.fracBits)
  d.signed (s.sign x) (d.infinity + (f ||| d.quietBit))

/-- Convert between floating-point formats (R56, R64). -/
def floatToFloatLane (s d : FloatFmt) (ctx : NumCtx) (x : Nat) : LaneOut :=
  match s.classify x with
  | .quietNaN => .plain (moveNaN s d x)
  | .signallingNaN => { pre := condIV, post := 0, value := moveNaN s d x }
  | .infinity => .plain (d.signed (s.sign x) d.infinity)
  | .zero => .plain (d.signed (s.sign x) 0)
  | .denormal | .normal =>
    if s = d then .plain x
    else d.finish ctx { neg := s.sign x, m := s.significand x, e := s.scale x, sticky := false }

/-- Convert from a floating-point to an integer format (R57, R64, R69, R70). -/
def floatToIntLane (p : FloatFmt) (dir : Rounding) (dst : Format) (x : Nat) : LaneOut :=
  let invalid : LaneOut :=
    { pre := condIV, post := 0, value := if dst.isSigned then dst.wrap dst.minValue else 0 }
  let limit (neg : Bool) : LaneOut :=
    { pre := 0, post := condSA, value := dst.wrap (if neg then dst.minValue else dst.maxValue) }
  match p.classify x with
  | .quietNaN | .signallingNaN => invalid
  | .infinity => if dst.isSat then limit (p.sign x) else invalid
  | .zero => .plain 0
  | .denormal | .normal =>
    let r := p.toInteger dir x
    if dst.minValue ≤ r.1 ∧ r.1 ≤ dst.maxValue then
      { pre := 0, post := condIf r.2 condIX, value := dst.wrap r.1 }
    else if dst.isSat then limit (r.1 < 0)
    else invalid

/-- A job's operation as the numeric unit sees it: formats, predicate, Truncate and the Fill value (R13, R42). -/
structure LaneJob where
  op        : Operation
  predicate : Predicate
  truncate  : Bool
  src       : Format
  dst       : Format
  immediate : Nat
  deriving DecidableEq, Repr

/-- Integer Min and Max (R48). -/
def intMinMax (f : Format) (isMax : Bool) (a b : Nat) : Nat :=
  if f.value a ≤ f.value b then (if isMax then b else a) else (if isMax then a else b)

/-- The outcome of one active lane (R74): conditions, and the value it delivers with all of them masked.  `a`, `b` and
`c` are its source elements. -/
def evalLane (ctx : NumCtx) (j : LaneJob) (a b c : Nat) : LaneOut :=
  let p := FloatFmt.ofSize j.src.size
  let fa := p.flushInput ctx.tiz a
  let fb := p.flushInput ctx.tiz b
  let fc := p.flushInput ctx.tiz c
  let va := j.src.value a
  let vb := j.src.value b
  let isF := j.src.isFloat
  match j.op with
  | .copy => .plain a
  | .fill => .plain (j.immediate % 2 ^ j.dst.bits)
  | .and => .plain (a &&& b)
  | .or => .plain (a ||| b)
  | .xor => .plain (a ^^^ b)
  | .andNot => .plain (a &&& (b ^^^ (2 ^ j.src.bits - 1)))
  | .add => if isF then addLane p ctx false fa fb else storeLane j.dst (va + vb)
  | .subtract => if isF then addLane p ctx true fa fb else storeLane j.dst (va - vb)
  | .multiply => if isF then mulLane p ctx fa fb else storeLane j.dst (va * vb)
  | .mulAdd => if isF then mulAddLane p ctx fa fb fc else storeLane j.dst (va * vb + j.src.value c)
  | .divide => if isF then divLane p ctx fa fb else intDivLane j.src a b
  | .sqrt => sqrtLane p ctx fa
  | .min => if isF then minMaxLane p false fa fb else .plain (intMinMax j.src false a b)
  | .max => if isF then minMaxLane p true fa fb else .plain (intMinMax j.src true a b)
  | .compare =>
    if isF then compareLane p j.src.size j.predicate fa fb
    else .plain (truthElement j.src.size (j.predicate.holds (relationOf va vb)))
  | .convert =>
    match isF, j.dst.isFloat with
    | false, false => storeLane j.dst va
    | false, true => intToFloatLane (FloatFmt.ofSize j.dst.size) ctx va
    | true, true => floatToFloatLane p (FloatFmt.ofSize j.dst.size) ctx fa
    | true, false => floatToIntLane p (if j.truncate then .zero else ctx.dir) j.dst fa

/-- The context the ACW gives an attempt (R59), and a full-masked evaluation's (R78). -/
def numCtx (acw : Word32) (fullMasked : Bool) : NumCtx :=
  { dir := acwRounding acw, tiz := acwTiz acw, trf := acwTrf acw,
    unMasked := fullMasked || (acwMasks acw &&& condUN != 0) }

end Sys2Proof.Machine
end

