-- ==== Sys2Proof/Machine/Descriptors.lean ====
section
/-! DEFINITION. Descriptors and stream specifications: their fields and their validation (R13 to R16, R42, R45, R80,
R81, R89). -/
namespace Sys2Proof.Machine

/-- The reduction of an address in compact addressing mode, and to 64 bits in native mode (R89). -/
def reduceAddress (compact : Bool) (a : Nat) : Nat := if compact then a % 2 ^ 32 else a % 2 ^ 64

/-- The seven descriptor kinds (R14). -/
inductive DescKind where
  | operation | setControl | fence | flush | call | ret | marker
  deriving DecidableEq, Repr

/-- The Kind codes (R14). -/
def DescKind.ofCode (code : Nat) : Option DescKind :=
  match code with
  | 1 => some .operation
  | 2 => some .setControl
  | 3 => some .fence
  | 4 => some .flush
  | 5 => some .call
  | 6 => some .ret
  | 7 => some .marker
  | _ => none

/-- A stream specification's 24 bytes (R80). -/
structure StreamSpec where
  raw : BitVec 192
  deriving DecidableEq, Repr

/-- Base, bytes 0 to 7. -/
def StreamSpec.base (s : StreamSpec) : Nat := bytesAt s.raw 0 8
/-- Index table address, bytes 8 to 15. -/
def StreamSpec.indexTable (s : StreamSpec) : Nat := bytesAt s.raw 8 8
/-- Stride, bytes 16 to 19, signed. -/
def StreamSpec.stride (s : StreamSpec) : Int := (BitVec.ofNat 32 (bytesAt s.raw 16 4)).toInt
/-- The control word, bytes 20 to 23. -/
def StreamSpec.control (s : StreamSpec) : Nat := bytesAt s.raw 20 4
/-- Mode, bits 0 to 2. -/
def StreamSpec.mode (s : StreamSpec) : Nat := bitsAt s.control 0 3
/-- Attribute, bit 3: bypass. -/
def StreamSpec.bypass (s : StreamSpec) : Bool := bitsAt s.control 3 1 == 1
/-- Window exponent k, bits 4 to 8. -/
def StreamSpec.window (s : StreamSpec) : Nat := bitsAt s.control 4 5
/-- Index width, bit 9: the entry size e of R86. -/
def StreamSpec.entrySize (s : StreamSpec) : Nat := if bitsAt s.control 9 1 == 1 then 4 else 2
/-- Index scale, bits 10 and 11: the factor s of R86. -/
def StreamSpec.scale (s : StreamSpec) : Nat := 2 ^ bitsAt s.control 10 2
/-- Index window exponent, bits 12 to 16. -/
def StreamSpec.indexWindow (s : StreamSpec) : Nat := bitsAt s.control 12 5
/-- The fields only Indexed uses: width, scale and window, bits 9 to 16. -/
def StreamSpec.indexBits (s : StreamSpec) : Nat := bitsAt s.control 9 8
/-- Reserved bits 17 to 31. -/
def StreamSpec.reserved (s : StreamSpec) : Nat := bitsAt s.control 17 15

/-- The four addressing modes (R80). -/
inductive AddrMode where
  | linear | strided | windowed | indexed
  deriving DecidableEq, Repr

/-- The Mode codes (R80). -/
def AddrMode.ofCode (code : Nat) : Option AddrMode :=
  match code with
  | 1 => some .linear
  | 2 => some .strided
  | 3 => some .windowed
  | 4 => some .indexed
  | _ => none

/-- A window exponent lies in 12 to 30 and its address is a multiple of the window (R81 checks 4 and 5). -/
def windowLegal (address k : Nat) : Bool := 12 ≤ k && k ≤ 30 && address % 2 ^ k == 0

/-- The checks of R81 on a stream the operation uses. -/
def StreamSpec.legal (s : StreamSpec) (compact : Bool) : Bool :=
  let noTable := s.indexTable == 0
  let noStride := bytesAt s.raw 16 4 == 0
  let noWindow := s.window == 0
  let noIndex := s.indexBits == 0
  s.reserved == 0 &&
    match AddrMode.ofCode s.mode with
    | none => false
    | some .linear => noTable && noStride && noWindow && noIndex
    | some .strided => noTable && noWindow && noIndex
    | some .windowed =>
      noTable && noStride && noIndex && windowLegal (reduceAddress compact s.base) s.window
    | some .indexed =>
      noStride && noWindow && windowLegal (reduceAddress compact s.indexTable) s.indexWindow

/-- The control word, bytes 0 to 3 (R13). -/
def descControl (d : DescImage) : Nat := bytesAt d 0 4
/-- Kind, bits 0 to 3. -/
def descKind (d : DescImage) : Option DescKind := DescKind.ofCode (bitsAt (descControl d) 0 4)
/-- Flags, bits 4 to 11. -/
def descFlags (d : DescImage) : Nat := bitsAt (descControl d) 4 8
/-- Notify (R15). -/
def descNotify (d : DescImage) : Bool := bitsAt (descFlags d) 0 1 == 1
/-- Truncate (R15). -/
def descTruncate (d : DescImage) : Bool := bitsAt (descFlags d) 1 1 == 1
/-- Bypass-default (R15). -/
def descBypass (d : DescImage) : Bool := bitsAt (descFlags d) 2 1 == 1
/-- Substitute-on-fault (R15). -/
def descSubstitute (d : DescImage) : Bool := bitsAt (descFlags d) 3 1 == 1
/-- Operation, bits 12 to 15. -/
def descOperation (d : DescImage) : Operation := Operation.ofCode (bitsAt (descControl d) 12 4)
/-- Predicate, bits 16 to 19. -/
def descPredicate (d : DescImage) : Nat := bitsAt (descControl d) 16 4
/-- Source format code, bits 20 to 25. -/
def descSource (d : DescImage) : Nat := bitsAt (descControl d) 20 6
/-- Destination format code, bits 26 to 31. -/
def descDest (d : DescImage) : Nat := bitsAt (descControl d) 26 6
/-- Length, bytes 4 to 7. -/
def descLength (d : DescImage) : Nat := bytesAt d 4 4
/-- Completion address as written, bytes 8 to 15. -/
def descCompletionField (d : DescImage) : Nat := bytesAt d 8 8
/-- Completion address as used (R89). -/
def descCompletion (compact : Bool) (d : DescImage) : Nat := reduceAddress compact (descCompletionField d)
/-- Immediate, bytes 16 to 23. -/
def descImmediate (d : DescImage) : Nat := bytesAt d 16 8
/-- CALL target as used (R24, R89). -/
def descTarget (compact : Bool) (d : DescImage) : Nat := reduceAddress compact (descImmediate d)
/-- Update mask, bytes 24 to 31. -/
def descUpdateMask (d : DescImage) : Nat := bytesAt d 24 8

/-- A stream's specification (R13): A at byte 32, B at 56, C at 80, D at 104. -/
def descStream (d : DescImage) (s : StreamId) : StreamSpec :=
  match s with
  | .a => ⟨d.extractLsb' 256 192⟩
  | .b => ⟨d.extractLsb' 448 192⟩
  | .c => ⟨d.extractLsb' 640 192⟩
  | .d => ⟨d.extractLsb' 832 192⟩
  | .none | .index => ⟨0⟩

/-- The streams a job uses (R42): its sources in the order A, B, C, then D. -/
def usedStreams (op : Operation) : List StreamId := op.sources ++ [.d]

/-- The streams in the order of every check. -/
def allStreams : List StreamId := [.a, .b, .c, .d]

/-- Check 2 of R16: reserved flag bits, flags the kind does not allow, and Truncate without Convert (R14, R15). -/
def flagsLegal (k : DescKind) (d : DescImage) : Bool :=
  let f := descFlags d
  match k with
  | .operation => f < 16 && (!descTruncate d || descOperation d == .convert)
  | .setControl | .fence | .flush | .marker => f < 2
  | .call | .ret => f == 0

/-- Check 3 of R16: every field the kind does not use is zero (R14). -/
def unusedZero (k : DescKind) (d : DescImage) : Bool :=
  let noOp := bitsAt (descControl d) 12 20 == 0
  let noLength := descLength d == 0
  let noCompletion := descCompletionField d == 0
  let noImmediate := descImmediate d == 0
  let noMask := descUpdateMask d == 0
  let noStreams := allStreams.all fun s => (descStream d s).raw == 0
  match k with
  | .operation => noMask && (descOperation d == .fill || noImmediate)
  | .setControl => noOp && noLength && descImmediate d < 2 ^ 32 && noStreams
  | .fence | .flush | .marker => noOp && noLength && noImmediate && noMask && noStreams
  | .call => noOp && noLength && noCompletion && noMask && noStreams
  | .ret => noOp && noLength && noCompletion && noImmediate && noMask && noStreams

/-- The formats of an OPERATION: the source (none for code 00H) and the destination, when both codes are defined
(R34). -/
def descFormats (d : DescImage) : Option (Option Format × Format) :=
  match Format.ofCode (descDest d) with
  | none => none
  | some dst =>
    if descSource d == 0 then some (none, dst)
    else
      match Format.ofCode (descSource d) with
      | none => none
      | some src => some (some src, dst)

/-- The kind-specific checks of an OPERATION (R42). -/
def operationLegal (compact : Bool) (d : DescImage) : Bool :=
  let op := descOperation d
  let predicateLegal :=
    if op == .compare then (Predicate.ofCode (descPredicate d)).isSome else descPredicate d == 0
  predicateLegal &&
    match descFormats d with
    | none => false
    | some (src, dst) =>
      formatsLegal op src dst &&
      (op != .fill || descImmediate d < 2 ^ dst.bits) &&
      (allStreams.all fun s => (usedStreams op).contains s || (descStream d s).raw == 0) &&
      ((usedStreams op).all fun s => (descStream d s).legal compact)

/-- Check 5 of R16. -/
def kindLegal (compact : Bool) (k : DescKind) (d : DescImage) : Bool :=
  let completionAligned := descCompletion compact d % 32 == 0
  match k with
  | .operation => operationLegal compact d && completionAligned
  | .setControl | .fence | .flush | .marker => completionAligned
  | .call => descTarget compact d % 128 == 0
  | .ret => true

/-- The validation of R16: checks 1 to 5, each of which raises a Descriptor fault. -/
def validDescriptor (compact : Bool) (ring : RingId) (d : DescImage) : Bool :=
  match descKind d with
  | none => false
  | some k =>
    flagsLegal k d && unusedZero k d && (ring != .expedite || (k != .call && k != .ret)) && kindLegal compact k d

/-- The lane count of a validated OPERATION (R37); 1 for anything else, so that no division is by zero. -/
def descLanes (d : DescImage) : Nat :=
  match descFormats d with
  | some (src, dst) => laneCount src dst
  | none => 1

/-- The number of beats of a validated OPERATION (R17). -/
def descBeats (d : DescImage) : Nat := beatCount (descLength d) (descLanes d)

/-- What the numeric unit is given of a validated OPERATION. -/
def descLaneJob (d : DescImage) : LaneJob :=
  let dst := ((descFormats d).map (·.2)).getD ⟨.unsignedWrap, 1⟩
  let src := ((descFormats d).bind (·.1)).getD dst
  { op := descOperation d, predicate := (Predicate.ofCode (descPredicate d)).getD .eq, truncate := descTruncate d,
    src := src, dst := dst, immediate := descImmediate d }

/-- The element size of a stream (R82). -/
def streamSize (d : DescImage) (s : StreamId) : Nat :=
  let j := descLaneJob d
  if s == .d then j.dst.size else j.src.size

/-- The attribute of a stream and its index table (R82): bypass. -/
def streamBypass (d : DescImage) (s : StreamId) : Bool := descBypass d || (descStream d s).bypass

end Sys2Proof.Machine
end

