-- ==== Sys2Proof/Machine/Operands.lean ====
section
/-! DEFINITION. The stream address generator: element and index entry addresses, alignment, apertures, and the two
rounds of checks of a beat (R80 to R95). -/
namespace Sys2Proof.Machine

/-- The exact address of element `i` of a stream that is not Indexed (R83 to R85), before any reduction. -/
def exactAddress (compact : Bool) (s : StreamSpec) (size i : Nat) : Int :=
  let base := reduceAddress compact s.base
  match AddrMode.ofCode s.mode with
  | some .strided => base + i * s.stride
  | some .windowed => base + (i * size) % 2 ^ s.window
  | _ => base + i * size

/-- The address of the index entry of element `i` (R86). -/
def entryAddress (compact : Bool) (s : StreamSpec) (i : Nat) : Int :=
  reduceAddress compact s.indexTable + (i * s.entrySize) % 2 ^ s.indexWindow

/-- The exact data address an index entry gives (R86). -/
def dataAddress (compact : Bool) (s : StreamSpec) (size index : Nat) : Int :=
  reduceAddress compact s.base + index * s.scale * size

/-- An aperture that covers an address and grants a permission (R91). -/
def apertureAdmits (a : Aperture) (address : Nat) (write : Bool) : Bool :=
  a.control[0] && (if write then a.control[2] else a.control[1]) && a.base.toNat ≤ address && address ≤ a.limit.toNat

/-- The aperture check (R91): one aperture alone must pass the access. -/
def aperturesAdmit (aps : Vector Aperture 4) (address : Nat) (write : Bool) : Bool :=
  allWays.any fun i => apertureAdmits (aps[i.val]) address write

/-- A checked access: the address used, or the failure with the address to report (R94). -/
inductive Checked where
  | pass (address : Nat)
  | failed (sub : SubKind) (address : Word64)
  deriving DecidableEq, Repr

/-- The checks of one access in their order: overflow, alignment, aperture (R83 to R94). -/
def checkAddress (compact : Bool) (aps : Vector Aperture 4) (exact : Int) (size : Nat) (write : Bool) : Checked :=
  if !compact && (exact < 0 || (2 ^ 64 : Nat) ≤ exact) then .failed .overflow (BitVec.ofInt 64 exact)
  else
    let address := (exact % (if compact then (2 ^ 32 : Nat) else (2 ^ 64 : Nat) : Nat)).toNat
    if address % size != 0 then .failed .misaligned (BitVec.ofNat 64 address)
    else if aperturesAdmit aps address write then .pass address
    else .failed .aperture (BitVec.ofNat 64 address)

/-- One access of a round: its lane, the stream it belongs to, whether it is an index entry, its element size, and its
check. -/
structure RoundAccess where
  lane   : Nat
  stream : StreamId
  entry  : Bool
  size   : Nat
  check  : Checked
  deriving DecidableEq, Repr

/-- Whether a stream of a job is Indexed. -/
def isIndexed (d : DescImage) (s : StreamId) : Bool := AddrMode.ofCode (descStream d s).mode == some .indexed

/-- The active lanes of a beat (R38). -/
def activeLanes (d : DescImage) (beat : Nat) : List Nat :=
  (List.range (descLanes d)).filter fun j => beat * descLanes d + j < descLength d

/-- The accesses of a lane in the first round (R93 step 1), in the order of R94: index entries, then elements. -/
def firstRoundLane (compact : Bool) (aps : Vector Aperture 4) (d : DescImage) (beat lane : Nat) : List RoundAccess :=
  let i := beat * descLanes d + lane
  let used := usedStreams (descOperation d)
  let entries := (used.filter (isIndexed d)).map fun s =>
    let sp := descStream d s
    { lane := lane, stream := s, entry := true, size := sp.entrySize,
      check := checkAddress compact aps (entryAddress compact sp i) sp.entrySize false : RoundAccess }
  let elements := (used.filter fun s => !isIndexed d s).map fun s =>
    let size := streamSize d s
    { lane := lane, stream := s, entry := false, size := size,
      check := checkAddress compact aps (exactAddress compact (descStream d s) size i) size (s == .d) : RoundAccess }
  entries ++ elements

/-- The first round of checks of a beat. -/
def firstRound (compact : Bool) (aps : Vector Aperture 4) (d : DescImage) (beat : Nat) : List RoundAccess :=
  (activeLanes d beat).flatMap (firstRoundLane compact aps d beat)

/-- The index entry read for a lane of a stream. -/
def indexOf (indices : List (Nat × StreamId × Nat)) (lane : Nat) (s : StreamId) : Nat :=
  match indices.find? fun x => x.1 == lane && x.2.1 == s with
  | some x => x.2.2
  | none => 0

/-- The accesses of a lane in the second round (R93 step 3): the data addresses of the Indexed streams. -/
def secondRoundLane (compact : Bool) (aps : Vector Aperture 4) (d : DescImage)
    (indices : List (Nat × StreamId × Nat)) (lane : Nat) : List RoundAccess :=
  ((usedStreams (descOperation d)).filter (isIndexed d)).map fun s =>
    let size := streamSize d s
    { lane := lane, stream := s, entry := false, size := size,
      check := checkAddress compact aps (dataAddress compact (descStream d s) size (indexOf indices lane s)) size
        (s == .d) : RoundAccess }

/-- The second round of checks of a beat. -/
def secondRound (compact : Bool) (aps : Vector Aperture 4) (d : DescImage) (beat : Nat)
    (indices : List (Nat × StreamId × Nat)) : List RoundAccess :=
  (activeLanes d beat).flatMap (secondRoundLane compact aps d indices)

/-- The failing access a round reports (R94): the lowest lane's first.  A round lists lanes ascending and each lane's
accesses in order, so it is the first failure. -/
def roundFailure (xs : List RoundAccess) : Option (RoundAccess × SubKind × Word64) :=
  xs.findSome? fun x =>
    match x.check with
    | .failed sub a => some (x, sub, a)
    | .pass _ => none

/-- The address of an access that passed. -/
def RoundAccess.address (x : RoundAccess) : Nat :=
  match x.check with
  | .pass a => a
  | .failed _ _ => 0

end Sys2Proof.Machine
end

