-- ==== Sys2Proof/Machine/Ops.lean ====
section
/-! DEFINITION. The named operations over the state: channels, rejections, cache lines, requests and tags, events and
the interrupt level.  Everything else is written over these. -/
namespace Sys2Proof.Machine

/-! ### Channels -/

/-- Channel `c`. -/
def State.ch (s : State) (c : Chan) : Channel := s.chans[c.val]

/-- Replace channel `c`. -/
def State.setCh (s : State) (c : Chan) (x : Channel) : State := { s with chans := s.chans.set c.val x }

/-- Change channel `c`. -/
def State.modCh (s : State) (c : Chan) (f : Channel → Channel) : State := s.setCh c (f (s.ch c))

/-- Change every channel, in the order 0 to 3. -/
def State.forChans (s : State) (f : Chan → State → State) : State := allChans.foldl (fun s c => f c s) s

/-- Record a rejection (R7, R27): the last rejection reason changes and nothing else. -/
def State.reject (s : State) (c : Chan) (r : Reason) : State := s.modCh c fun h => { h with reason := r }

/-- Send a message on the link. -/
def State.send (s : State) (m : Message) : State := { s with sent := s.sent ++ [m] }

/-- A held channel (R6). -/
def Channel.held (h : Channel) : Bool := h.heldQuiesce || h.heldFatal

/-- Untaken entries of a ring (R8): (V - F) mod N is not 0. -/
def Ring.untaken (r : Ring) : Bool := r.producer != r.fetch

/-- The next index of a ring (R2). -/
def Ring.succ (r : Ring) (i : Nat) : Nat := if r.size = 0 then 0 else (i + 1) % r.size

/-- The distance from `a` up to `b` in a ring of size `n` (R2): (b - a) mod n. -/
def ringDistance (n a b : Nat) : Nat := if n = 0 then 0 else (b + n - a % n) % n

/-- The expedite ring has untaken entries: a doorbell is latched on it (R8). -/
def Channel.expediteLatched (h : Channel) : Bool := h.expedite.untaken

/-- The list address of the next list descriptor (R26): 128 further, wrapped as the addressing mode says. -/
def nextListAddress (compact : Bool) (a : Word64) : Word64 :=
  BitVec.ofNat 64 (reduceAddress compact (reduceAddress compact a.toNat + 128))

/-! ### Cache lines -/

/-- The set of a line number (address / 64) (R136). -/
def lineSet (n : Nat) : SetId := setOf (n / 2)
/-- Whether a line number is the upper line of its sector. -/
def lineUpper (n : Nat) : Bool := n % 2 == 1
/-- The tag of a line number. -/
def lineTag (n : Nat) : Nat := n / 256
/-- The sibling of a line (R136). -/
def siblingLine (n : Nat) : Nat := if lineUpper n then n - 1 else n + 1

/-- The line of a way. -/
def CacheWay.line (w : CacheWay) (upper : Bool) : CacheLine := if upper then w.upper else w.lower
/-- Replace a line of a way. -/
def CacheWay.setLine (w : CacheWay) (upper : Bool) (l : CacheLine) : CacheWay :=
  if upper then { w with upper := l } else { w with lower := l }

/-- The set of a number. -/
def Cache.set (k : Cache) (i : SetId) : CacheSet := k.sets[i.val]
/-- Replace a set. -/
def Cache.putSet (k : Cache) (i : SetId) (x : CacheSet) : Cache := { k with sets := k.sets.set i.val x }

/-- The way of a set. -/
def CacheSet.way (x : CacheSet) (w : WayId) : CacheWay := x.ways[w.val]
/-- Replace a way. -/
def CacheSet.putWay (x : CacheSet) (w : WayId) (y : CacheWay) : CacheSet := { x with ways := x.ways.set w.val y }

/-- The way that carries a tag (R136): a tag hit. -/
def CacheSet.findWay (x : CacheSet) (tag : Nat) : Option WayId :=
  allWays.find? fun w => (x.way w).tagValid && (x.way w).tag == tag

/-- The way that holds the sector of a line, if any. -/
def Cache.findWay (k : Cache) (n : Nat) : Option WayId := (k.set (lineSet n)).findWay (lineTag n)

/-- The line of a number, when its tag is present. -/
def Cache.line (k : Cache) (n : Nat) : Option CacheLine :=
  (k.findWay n).map fun w => ((k.set (lineSet n)).way w).line (lineUpper n)

/-- The state of a line: Invalid on a tag miss. -/
def Cache.lineState (k : Cache) (n : Nat) : LineState :=
  match k.line n with
  | some l => l.state
  | none => .invalid

/-- Change a line whose tag is present. -/
def Cache.modLine (k : Cache) (n : Nat) (f : CacheLine → CacheLine) : Cache :=
  match k.findWay n with
  | none => k
  | some w =>
    let x := k.set (lineSet n)
    let y := x.way w
    k.putSet (lineSet n) (x.putWay w (y.setLine (lineUpper n) (f (y.line (lineUpper n)))))

/-- Change every line of the cache. -/
def Cache.mapLines (k : Cache) (f : CacheLine → CacheLine) : Cache :=
  (List.range 128).foldl (fun k i =>
    allWays.foldl (fun k w =>
      let x := k.set (setOf i)
      let y := x.way w
      k.putSet (setOf i) (x.putWay w { y with lower := f y.lower, upper := f y.upper })) k) k

/-- A way moves to the front of its set's LRU order (R137). -/
def Cache.touch (k : Cache) (i : SetId) (w : WayId) : Cache :=
  let x := k.set i
  k.putSet i { x with lru := w :: x.lru.filter (· != w) }

/-- A line made Invalid; its markers stay. -/
def CacheLine.drop (l : CacheLine) : CacheLine := { l with state := .invalid, bytes := 0 }

/-- A line has a request outstanding. -/
def CacheLine.busy (l : CacheLine) : Bool := l.fill || l.upgrade

/-- Whether a line number is held in the eviction buffer (R143). -/
def Cache.evicting (k : Cache) (n : Nat) : Bool := k.evict.any fun e => e.line == n

/-- Room for `k` more entries in the eviction buffer. -/
def Cache.room (k : Cache) (n : Nat) : Bool := k.evict.length + n ≤ Config.evictEntries

/-- The order of sweep requests that arrive at one place: channels 0 to 3, then the command (R144). -/
def SweepKind.rank : SweepKind → Nat
  | .flush c => c.val
  | .command | .dormantEntry => 4

/-- A sweep request enters the queue: after the older ones, and among those of this place in the order of R144. -/
def enterQueue (r : SweepReq) : List SweepReq → List SweepReq
  | [] => [r]
  | x :: xs => if x.fresh && r.kind.rank < x.kind.rank then r :: x :: xs else x :: enterQueue r xs

/-- A sweep request arrives now (R144). -/
def Cache.request (k : Cache) (kind : SweepKind) : Cache :=
  { k with queue := enterQueue { kind := kind, fresh := true } k.queue }

/-- Change the cache. -/
def State.modCache (s : State) (f : Cache → Cache) : State := { s with cache := f s.cache }

/-! ### Requests and tags -/

/-- The order of requesters at one place in the total order (R155). -/
def Owner.rank : Owner → Nat
  | .channel c => c.val
  | .cache => 4
  | .engine => 5

/-- The pool of a request (R154): data, or control. -/
def Purpose.usesData : Purpose → Bool
  | .read _ _ | .prefetch | .acquire | .descriptor _ | .bypass _ _ => true
  | .record _ | .csbSave | .csbRead _ | .event _ | .writeBack => false

/-- Insert a request that became ready just now: after the older ones, and among those of this place in the order of
their owners (R155). -/
def insertReady (r : Req) : List Req → List Req
  | [] => [r]
  | x :: xs => if x.fresh && r.owner.rank < x.owner.rank then r :: x :: xs else x :: insertReady r xs

/-- A request becomes ready. -/
def State.ask (s : State) (r : Req) : State := { s with link := { s.link with waiting := insertReady r s.link.waiting } }

/-- The tag of a number. -/
def Link.tag (l : Link) (t : TagId) : Tag := l.tags[t.val]
/-- Replace a tag. -/
def Link.putTag (l : Link) (t : TagId) (x : Tag) : Link := { l with tags := l.tags.set t.val x }

/-- The requests that hold a tag. -/
def Link.outstanding (l : Link) : List Req := allTags.filterMap fun t => ((l.tag t).record).map (·.req)

/-- Every request of the part: those that hold a tag and those that wait. -/
def Link.requests (l : Link) : List Req := l.outstanding ++ l.waiting

/-- No tag is outstanding and no request waits (R161, R164, R172). -/
def Link.still (l : Link) : Bool := l.outstanding.isEmpty && l.waiting.isEmpty

/-- Whether a tag belongs to the data pool (R154). -/
def isDataTag (t : TagId) : Bool := t.val < Config.dataTags

/-- Data tags in use: outstanding or retired (R154). -/
def Link.dataInUse (l : Link) : Nat := (allTags.filter fun t => isDataTag t && (l.tag t).state != .free).length

/-- Data tags a channel holds (R154). -/
def Link.dataHeld (l : Link) (c : Chan) : Nat :=
  (allTags.filter fun t => isDataTag t &&
    match (l.tag t).record with
    | some r => r.req.owner == .channel c
    | none => false).length

/-- The tag the link interface gives (R155): the lowest free one without a stale mark, else the lowest free one. -/
def Link.freeTag (l : Link) (data : Bool) : Option TagId :=
  match allTags.find? fun t => isDataTag t == data && (l.tag t).state == .free && !(l.tag t).stale with
  | some t => some t
  | none => allTags.find? fun t => isDataTag t == data && (l.tag t).state == .free

/-- A data tag can be had for a channel now (R33, R155). -/
def Link.dataAvailable (l : Link) (c : Chan) : Bool :=
  l.dataHeld c < Config.dataTagCap && (l.freeTag true).isSome

/-- A request of a channel that still counts for it (not one it was reset away from). -/
def Req.isOf (r : Req) (c : Chan) : Bool := r.owner == .channel c && !r.orphan

/-- A bypass destination write of the channel's job is outstanding or waits (R17, R96, R115). -/
def State.bypassOutstanding (s : State) (c : Chan) : Bool :=
  s.link.requests.any fun r => r.isOf c &&
    match r.purpose with
    | .bypass _ _ => true
    | _ => false

/-- A completion record write of the channel is outstanding (R20). -/
def State.recordOutstanding (s : State) (c : Chan) : Bool :=
  s.link.requests.any fun r => r.isOf c &&
    match r.purpose with
    | .record _ => true
    | _ => false

/-- A save write of the channel is outstanding or waits (R113). -/
def State.saveOutstanding (s : State) (c : Chan) : Bool :=
  s.link.requests.any fun r => r.isOf c && r.purpose == .csbSave

/-- An event record write is outstanding or waits, whatever became of its record (R130, R161, R164). -/
def State.eventOutstanding (s : State) : Bool :=
  s.link.requests.any fun r =>
    match r.purpose with
    | .event _ => true
    | _ => false

/-- Change every request that holds a tag. -/
def Link.mapOutstanding (l : Link) (f : Req → Req) : Link :=
  allTags.foldl (fun l t =>
    match (l.tag t).record with
    | some r => l.putTag t { l.tag t with record := some { r with req := f r.req } }
    | none => l) l

/-- Withdraw the waiting requests that `p` picks; a fill that is not issued leaves no marker (log 9). -/
def State.withdraw (s : State) (p : Req → Bool) : State :=
  let gone := s.link.waiting.filter p
  let k := gone.foldl (fun k r =>
    match r.kind with
    | .fetchShared | .fetchOwned => k.modLine (r.address / 64) fun l => { l with fill := false }
    | .upgrade | .writeLine | .readDirect | .writePartial => k) s.cache
  { s with cache := k, link := { s.link with waiting := s.link.waiting.filter fun r => !p r } }

/-- A request without data. -/
def Req.plain (kind : ReqKind) (address span : Nat) (owner : Owner) (purpose : Purpose) : Req :=
  { kind := kind, address := address, span := span, mask := 0, bytes := 0, owner := owner, purpose := purpose,
    orphan := false, waited := false, fresh := true }

/-- A WritePartial of the line that holds `address` (R142): bytes and mask stand at their places in the line. -/
def Req.write (address : Nat) (mask : BitVec 64) (bytes : Line) (owner : Owner) (purpose : Purpose) : Req :=
  { kind := .writePartial, address := address / 64 * 64, span := 64, mask := mask, bytes := bytes, owner := owner,
    purpose := purpose, orphan := false, waited := false, fresh := true }

/-- A line moves into the eviction buffer, and its WriteLine becomes ready (R143). -/
def State.evictLine (s : State) (n : Nat) (bytes : Line) (sweep : Option Nat) : State :=
  let s := s.modCache fun k => { k with evict := k.evict ++ [{ line := n, bytes := bytes, sweep := sweep }] }
  s.ask { Req.plain .writeLine (n * 64) 64 .cache .writeBack with bytes := bytes, mask := BitVec.allOnes 64 }

/-! ### Events and the interrupt -/

/-- The next sequence value (R128): after FFFFH it becomes 0001H. -/
def nextSequence (n : BitVec 16) : BitVec 16 := if n = 0xFFFF#16 then 1#16 else n + 1#16

/-- Allocate a sequence number (R128). -/
def State.bumpSequence (s : State) : State :=
  { s with engine := { s.engine with sequence := nextSequence s.engine.sequence } }

/-- Drop an event into the Lost Events register (R131 to R133). -/
def Engine.lose (e : Engine) : Engine := { e with lost := satSucc e.lost }

/-- An event enters the FIFO, or is dropped (R131, R132, R133). -/
def Engine.accept (e : Engine) (v : Event) : Engine :=
  if e.fatal || e.size == 0 then e.lose
  else
    match e.lossMark with
    | some n => { e.lose with lossMark := some (satSucc n) }
    | none =>
      if e.fifo.length < Config.fifoEvents then { e with fifo := e.fifo ++ [v] }
      else { e.lose with lossMark := some 1 }

/-- Something draws on the event engine at the present place in the total order (R128, R131). -/
def State.note (s : State) (x : PlaceItem) : State := { s with place := s.place ++ [x] }

/-- Post an event that already has its sequence number (R126). -/
def State.postNumbered (s : State) (v : Event) : State := s.note (.numbered v)

/-- Post an event that takes its sequence number as it is posted (R128). -/
def State.post (s : State) (v : Event) : State := s.note (.post v)

/-- The order of R128 at one place: channel 0, 1, 2, 3, the power controller, the operand cache, the event engine. -/
def PlaceItem.rank : PlaceItem → Nat
  | .post v | .numbered v =>
    match v.channel with
    | some c => c.val
    | none => if v.kind == .deviceError then 5 else 4
  | .write _ (some c) => c.val
  | .write _ none => 6

/-- An event is among the items. -/
def PlaceItem.isEvent : PlaceItem → Bool
  | .post _ | .numbered _ => true
  | .write _ _ => false

/-- The items of one place in the order of R128; those of one rank stay in the order in which they arose. -/
def inPlaceOrder (items : List PlaceItem) : List PlaceItem :=
  (List.range 7).flatMap fun n => items.filter fun x => x.rank == n

/-- An event without a descriptor. -/
def Event.simple (kind : EventKind) (channel : Option Chan) (status : BitVec 16) (detail : Word64) : Event :=
  { kind := kind, channel := channel, ring := .none, auto := false, sequence := 0, status := status, location := 0,
    detail := detail }

/-- The interrupt level as R134 defines it. -/
def State.interruptLevel (s : State) : Bool :=
  (s.engine.tail != s.engine.head && s.device.irqEnable) || s.engine.fatal

/-- Evaluate the interrupt level and send a message where it changed (R134). -/
def State.evalInterrupt (s : State) : State :=
  let level := s.interruptLevel
  if level == s.engine.asserted then s
  else
    ({ s with engine := { s.engine with asserted := level } }).send
      (if level then .interruptAssert else .interruptDeassert)

end Sys2Proof.Machine
end

