-- ==== Sys2Proof/Machine/Blocks.lean ====
section
/-! DEFINITION. The blocks the part writes into memory: completion records (R125), event records (R127) and the context
save block, with its validation (R111, R112, R118). -/
namespace Sys2Proof.Machine

/-- Whether a current descriptor is an OPERATION. -/
def Current.isOperation (x : Current) : Bool := descKind x.image == some .operation

/-- A descriptor just fetched: no progress yet (R17). -/
def Current.start (image : DescImage) (ring : RingId) (location : Word64) : Current :=
  { image := image, ring := ring, location := location, beat := 0, committed := 0, skipped := 0, faults := 0, flags := 0,
    fails := [] }

/-- The 32 bytes of a completion record (Table 7-1), as the low bytes of a line. -/
def recordBytes (status : Status) (x : Current) (sequence : BitVec 16) : Line :=
  let op := x.isOperation
  let n (v : Nat) : Nat := if op then v else 0
  let b := putBytes (0 : Line) 0 1 status.code
  let b := putBytes b 1 1 x.ring.code
  let b := putBytes b 2 1 (n x.flags.toNat)
  let b := putBytes b 4 2 sequence.toNat
  let b := putBytes b 8 8 x.location.toNat
  let b := putBytes b 16 4 (n x.committed)
  let b := putBytes b 20 4 (n x.skipped)
  putBytes b 24 4 (n x.faults)

/-- The channel byte of an event record (Table 7-2). -/
def eventChannel (c : Option Chan) : Nat :=
  match c with
  | some c => c.val
  | none => 0xFF

/-- The 32 bytes of an event record (Table 7-2), as the low bytes of a line. -/
def Event.bytes (v : Event) : Line :=
  let b := putBytes (0 : Line) 0 1 v.kind.code
  let b := putBytes b 1 1 (eventChannel v.channel)
  let b := putBytes b 2 1 v.ring.code
  let b := putBytes b 3 1 v.auto.toNat
  let b := putBytes b 4 2 v.sequence.toNat
  let b := putBytes b 6 2 v.status.toNat
  let b := putBytes b 8 8 v.location.toNat
  putBytes b 16 8 v.detail.toNat

/-- The Events Lost record of a loss mark (R131).  Its channel byte is FFH (DESIGN CHOICE, log 47). -/
def eventsLost (count : Nat) (sequence : BitVec 16) : Event :=
  { Event.simple .eventsLost none 0 (BitVec.ofNat 64 count) with sequence := sequence }

/-- The Job Complete event of a descriptor (Table 7-3); its sequence number is given where it is allocated. -/
def jobCompleteEvent (c : Chan) (status : Status) (x : Current) (completion : Nat) (sequence : BitVec 16) : Event :=
  { kind := .jobComplete, channel := some c, ring := x.ring, auto := false, sequence := sequence,
    status := BitVec.ofNat 16 status.code, location := x.location, detail := BitVec.ofNat 64 completion }

/-! ### The context save block -/

/-- The address of the CSB as the channel uses it (R89, R110). -/
def Channel.csbUsed (h : Channel) : Word64 := BitVec.ofNat 64 (reduceAddress h.compact h.csbAddress.toNat)

/-- Saved state codes of Table 6-1. -/
def savedStateCode (x : ChState) : Nat :=
  match x with
  | .idle => 1
  | .running => 2
  | .waiting => 3
  | _ => 0

/-- Kind codes of a link stack entry (R111). -/
def LinkKind.code : LinkKind → Nat
  | .ringPosition => 1
  | .listAddress => 2

/-- One 24-byte link stack entry (R111), at its place in the block. -/
def putLink (b : CsbImage) (i : Nat) (e : LinkEntry) : CsbImage :=
  let o := 64 + 24 * i
  putBytes (putBytes (putBytes b o 8 e.next.toNat) (o + 8) 2 e.held) (o + 10) 1 e.kind.code

/-- The link stack at its place in the block, entry 0 at the bottom. -/
def putLinks (b : CsbImage) : Nat → List LinkEntry → CsbImage
  | _, [] => b
  | i, e :: es => putLinks (putLink b i e) (i + 1) es

/-- What a save records (R111, R112): the block as it stands when the save is complete. -/
def csbEncode (h : Channel) (saved : ChState) (origin : Origin) : CsbImage :=
  let b := putBytes (0 : CsbImage) 0 4 Config.csbSignature.toNat
  let b := putBytes b 4 4 1
  let b := putBytes b 8 1 (savedStateCode saved)
  let b := putBytes b 10 1 (match origin with | .explicit => 0 | .automatic => 1)
  let b := putBytes b 11 1 (h.current.isSome.toNat + 2 * h.listPos.isSome.toNat)
  let b := putBytes b 12 2 h.normal.consumer
  let b := putBytes b 14 2 h.normal.fetch
  let b := putBytes b 32 8 ((h.listPos.map (·.toNat)).getD 0)
  let b := putBytes b 57 1 h.links.length
  let b := putBytes b 60 4 h.acw.toNat
  let b := putLinks b 0 h.links.reverse
  match h.current with
  | none => b
  | some x =>
    let b := putBytes b 16 8 x.location.toNat
    let b := putBytes b 24 1 x.ring.code
    let b := putBytes b 192 128 x.image.toNat
    if x.isOperation then
      let b := putBytes b 40 4 x.beat
      let b := putBytes b 44 4 x.committed
      let b := putBytes b 48 4 x.skipped
      let b := putBytes b 52 4 x.faults
      putBytes b 56 1 x.flags.toNat
    else b

/-- The restart choices of Table 6-1. -/
inductive Restart where
  | continue_ | restartJob | abandonJob | skipWait
  deriving DecidableEq, Repr

/-- Restart choice, byte 9. -/
def csbRestart (b : CsbImage) : Option Restart :=
  match bytesAt b 9 1 with
  | 0 => some .continue_
  | 1 => some .restartJob
  | 2 => some .abandonJob
  | 3 => some .skipWait
  | _ => none

/-- Saved state, byte 8. -/
def csbState (b : CsbImage) : Option ChState :=
  match bytesAt b 8 1 with
  | 1 => some .idle
  | 2 => some .running
  | 3 => some .waiting
  | _ => none

/-- Descriptor ring, byte 24. -/
def csbRing (b : CsbImage) : Option RingId :=
  match bytesAt b 24 1 with
  | 0 => some .none
  | 1 => some .normal
  | 2 => some .list
  | _ => none

/-- Presence, bit 0: a current descriptor is held. -/
def csbHasCurrent (b : CsbImage) : Bool := bitsAt (bytesAt b 11 1) 0 1 == 1
/-- Presence, bit 1: a list position is held. -/
def csbHasList (b : CsbImage) : Bool := bitsAt (bytesAt b 11 1) 1 1 == 1
/-- Link depth, byte 57. -/
def csbDepth (b : CsbImage) : Nat := bytesAt b 57 1
/-- Descriptor image, bytes 192 to 319. -/
def csbImageOf (b : CsbImage) : DescImage := BitVec.ofNat 1024 (bytesAt b 192 128)
/-- List position, bytes 32 to 39. -/
def csbListPos (b : CsbImage) : Word64 := BitVec.ofNat 64 (bytesAt b 32 8)
/-- The ACW, bytes 60 to 63. -/
def csbAcw (b : CsbImage) : Word32 := BitVec.ofNat 32 (bytesAt b 60 4)

/-- A link stack entry of the block, when its kind is a defined code. -/
def csbLink (b : CsbImage) (i : Nat) : Option LinkEntry :=
  let o := 64 + 24 * i
  let e (k : LinkKind) : LinkEntry :=
    { kind := k, next := BitVec.ofNat 64 (bytesAt b o 8), held := bytesAt b (o + 8) 2 }
  match bytesAt b (o + 10) 1 with
  | 1 => some (e .ringPosition)
  | 2 => some (e .listAddress)
  | _ => none

/-- The entries below the link depth, bottom first. -/
def csbLinks (b : CsbImage) : List LinkEntry := (List.range (min (csbDepth b) 4)).filterMap (csbLink b)

/-- Check 1 of R118. -/
def csbSigned (b : CsbImage) : Bool := bytesAt b 0 4 == Config.csbSignature.toNat && bytesAt b 4 4 == 1

/-- Check 2 of R118: zero bytes, defined codes, and link stack entries at or above the depth. -/
def csbReservedClear (b : CsbImage) : Bool :=
  bytesAt b 25 7 == 0 && bytesAt b 58 2 == 0 && bytesAt b 160 32 == 0 && bytesAt b 320 192 == 0 &&
    bitsAt (bytesAt b 11 1) 2 6 == 0 && bitsAt (bytesAt b 56 1) 7 1 == 0 &&
    (csbState b).isSome && (csbRestart b).isSome && bytesAt b 10 1 < 2 && (csbRing b).isSome &&
    ([0, 1, 2, 3].all fun i =>
      let o := 64 + 24 * i
      if i < csbDepth b then (csbLink b i).isSome && bytesAt b (o + 11) 13 == 0 else bytesAt b o 24 == 0)

/-- Check 3 of R118. -/
def csbPositions (h : Channel) (b : CsbImage) : Bool :=
  bytesAt b 12 2 == h.normal.consumer && bytesAt b 14 2 == h.normal.fetch

/-- Check 4 of R118. -/
def csbLinksLegal (b : CsbImage) : Bool :=
  let es := csbLinks b
  csbDepth b ≤ 4 &&
    (es.drop 1).all (fun e => e.kind == .listAddress) &&
    es.all (fun e => e.held == ((es.head?.map (·.held)).getD 0)) &&
    csbHasList b == (csbDepth b != 0) &&
    (csbHasList b || csbListPos b == 0) &&
    (csbListPos b).toNat % 128 == 0 &&
    es.all (fun e => e.kind == .ringPosition || e.next.toNat % 128 == 0) &&
    (bytesAt b 24 1 != 2 || bytesAt b 16 8 % 128 == 0)

/-- Check 5 of R118. -/
def csbDescriptorLegal (h : Channel) (b : CsbImage) : Bool :=
  let ring := (csbRing b).getD .none
  let image := csbImageOf b
  let counts := bytesAt b 40 16 == 0 && bytesAt b 56 1 == 0
  csbHasCurrent b == (ring != .none) &&
    if !csbHasCurrent b then
      bytesAt b 16 8 == 0 && counts && image == 0 && csbState b != some .waiting
    else
      (csbState b != some .waiting || descKind image == some .fence) &&
        (ring != .normal || bytesAt b 16 8 == bytesAt b 12 2) &&
        validDescriptor h.compact ring image &&
        if descKind image == some .operation then
          bytesAt b 40 4 ≤ descBeats image && bytesAt b 44 4 + bytesAt b 48 4 ≤ bytesAt b 40 4
        else counts

/-- Check 6 of R118. -/
def csbRestartLegal (b : CsbImage) : Bool :=
  match csbRestart b with
  | some .skipWait => csbState b == some .waiting
  | some .restartJob | some .abandonJob =>
    csbState b == some .running && csbHasCurrent b && descKind (csbImageOf b) == some .operation
  | _ => true

/-- The validation of R118: the cause of the first check that fails. -/
def csbCheck (h : Channel) (b : CsbImage) : Option ErrCause :=
  if !csbSigned b then some .badSignature
  else if !csbReservedClear b then some .reservedFieldSet
  else if !csbPositions h b then some .ringPositionMismatch
  else if !csbLinksLegal b then some .linkStackInvalid
  else if !csbDescriptorLegal h b then some .descriptorStateInvalid
  else if !csbRestartLegal b then some .restartChoiceIllegal
  else if !acwLegal (csbAcw b) then some .acwInvalid
  else none

/-- The current descriptor a block holds. -/
def csbCurrent (b : CsbImage) : Option Current :=
  if csbHasCurrent b then
    some { image := csbImageOf b, ring := (csbRing b).getD .none, location := BitVec.ofNat 64 (bytesAt b 16 8),
           beat := bytesAt b 40 4, committed := bytesAt b 44 4, skipped := bytesAt b 48 4, faults := bytesAt b 52 4,
           flags := BitVec.ofNat 7 (bytesAt b 56 1), fails := [] }
  else none

end Sys2Proof.Machine
end

