-- ==== Sys2Proof/Machine/Link.lean ====
section
/-! DEFINITION. The link interface at work: issuing the waiting requests (R143, R155), delivering the bytes of bypass
reads, and ending requests (R156, R157). -/
namespace Sys2Proof.Machine

/-- Change the beat that holds the grant. -/
def State.modBeat (s : State) (f : Beat → Beat) : State := { s with beat := s.beat.map f }

/-- Bytes arrive for a bypass read: to the beat, the descriptor fetch or the restore that asked for them. -/
def State.deliverRead (s : State) (r : Req) (bytes : Line) : State :=
  if r.orphan then s
  else
    match r.purpose, r.owner with
    | .read stream _, _ =>
      s.modBeat fun b => { b with accesses := b.accesses.map fun a =>
        if a.state == .onDirect && a.stream == stream && a.address / 64 == r.address / 64 then
          { a with state := .got (bytesAt bytes (a.address - r.address) a.size) }
        else a }
    | .descriptor upper, .channel c =>
      s.modCh c fun h =>
        match h.phase with
        | .fetching lo hi => { h with phase := if upper then .fetching lo (.got bytes) else .fetching (.got bytes) hi }
        | _ => h
    | .csbRead i, .channel c =>
      s.modCh c fun h => { h with restore := h.restore.map fun x =>
        { x with image := putBytes x.image (64 * i) 64 bytes.toNat, missing := x.missing.filter (· != i) } }
    | _, _ => s

/-- The bytes of a span that a valid line holds (R142). -/
def CacheLine.span (l : CacheLine) (r : Req) : Line :=
  BitVec.ofNat 512 (bytesAt l.bytes (r.address % 64) r.span)

/-- A request takes a tag and is sent (R155, R157). -/
def State.issue (s : State) (t : TagId) (r : Req) : State :=
  let x := s.link.tag t
  let r := { r with fresh := false }
  let record := { req := r, timeout := s.link.responseTimeout, count := 0 : TagRec }
  let link := s.link.putTag t { x with state := .outstanding, record := some record }
  ({ s with link := link }).send (.request t x.gen r)

/-- A line that a bypass write finds Shared or Exclusive becomes Invalid (R142). -/
def State.dropClean (s : State) (n : Nat) : State :=
  s.modCache fun k => k.modLine n fun l => if l.state == .shared || l.state == .exclusive then l.drop else l

/-- The place in its line of the first byte that a write names. -/
def Req.firstOffset (r : Req) : Nat := ((List.range 64).find? fun i => r.mask.getLsbD i).getD 0

/-- The first byte a write names: the address of a failed write in a Channel Error event (DESIGN CHOICE, log 50). -/
def Req.firstByte (r : Req) : Nat := r.address + r.firstOffset

/-- Bytes 0 to 31 of a record, at its place in its line. -/
def placeRecord (r : Req) (bytes : Line) : Line := bytes <<< (8 * r.firstOffset)

/-- A completion record write with the record as it stands now, all but its event sequence (R125, R126). -/
def Channel.withRecord (h : Channel) (c : Chan) (r : Req) : Req :=
  match h.current, h.phase with
  | some x, .completing status false =>
    let event := jobCompleteEvent c status x (descCompletion h.compact x.image) 0
    { r with bytes := placeRecord r (recordBytes status x 0),
             purpose := .record (if descNotify x.image then some event else none) }
  | _, _ => r

/-- The channel's completion record write is issued: its descriptor completes at this moment (R17 step 2). -/
def Channel.recordIssued (h : Channel) : Channel :=
  match h.phase with
  | .completing status false => { h with phase := .completing status true }
  | _ => h

/-- The completion record write of a channel is issued; where the record carries the number of an event, it is allocated
at this place (R125, R126, R128).  A write that a Soft Init made an orphan has its record already (R172; log 13). -/
def State.issueRecord (s : State) (t : TagId) (c : Chan) (r : Req) : State :=
  let r' := if r.orphan then r else (s.ch c).withRecord c r
  let s := (if r.orphan then s else s.modCh c Channel.recordIssued).issue t r'
  match r'.purpose with
  | .record (some _) => s.note (.write t (some c))
  | _ => s

/-- The event record write is issued, and the oldest item of the FIFO leaves it at this place (R130, R131).  A write
that a Soft Init made an orphan has its record already (R172; log 13). -/
def State.issueEvent (s : State) (t : TagId) (r : Req) : State :=
  if r.orphan then s.issue t r
  else if s.engine.fifo.isEmpty && s.engine.lossMark.isNone then s
  else (s.issue t r).note (.write t none)

/-- Edit the request that has just taken a tag, in the tag's record and in the message sent. -/
def State.editRequest (s : State) (t : TagId) (f : Req → Req) : State :=
  let x := s.link.tag t
  let edit (m : Message) : Message :=
    match m with
    | .request u g r => if u == t then .request u g (f r) else m
    | m => m
  { s with link := s.link.putTag t { x with record := x.record.map fun y => { y with req := f y.req } },
           sent := s.sent.map edit }

/-- A completion record write takes the number of its event (R126, R128). -/
def Req.numbered (n : BitVec 16) (r : Req) : Req :=
  match r.purpose with
  | .record (some v) =>
    { r with bytes := putBytes r.bytes (r.firstOffset + 4) 2 n.toNat, purpose := .record (some { v with sequence := n }) }
  | _ => r

/-- The item that an event record write carries leaves the FIFO: its head event, or the loss mark (R130, R131). -/
def State.takeOldest (s : State) (t : TagId) : State :=
  let put (v : Event) (r : Req) : Req := { r with bytes := placeRecord r v.bytes }
  match s.engine.fifo, s.engine.lossMark with
  | v :: rest, _ => ({ s with engine := { s.engine with fifo := rest } }).editRequest t (put v)
  | [], some n =>
    let v := eventsLost n s.engine.sequence
    ({ s with engine := { s.bumpSequence.engine with lossMark := none } }).editRequest t (put v)
  | [], none => s

/-- One item of a place is numbered and posted (R128, R131). -/
def State.takeItem (s : State) (x : PlaceItem) : State :=
  match x with
  | .post v => { s with engine := s.bumpSequence.engine.accept { v with sequence := s.engine.sequence } }
  | .numbered v => { s with engine := s.engine.accept v }
  | .write t (some _) => (s.editRequest t (Req.numbered s.engine.sequence)).bumpSequence
  | .write t none => s.takeOldest t

/-- The end of a place: its numbers are allocated and its events posted in the order of R128 (R131; log 6). -/
def State.numberPlace (s : State) : State := (inPlaceOrder s.place).foldl State.takeItem { s with place := [] }

/-- What can be done for a waiting request now. -/
inductive Service where
  | issue (t : TagId)
  | fromCache (l : CacheLine)
  | moveDirty (l : CacheLine)
  deriving DecidableEq, Repr

/-- A request that waits while its line is in the eviction buffer (R143). -/
def ReqKind.waitsOnEviction : ReqKind → Bool
  | .fetchShared | .fetchOwned | .readDirect | .writePartial => true
  | .upgrade | .writeLine => false

/-- A bypass destination write (R142). -/
def Req.isBypass (r : Req) : Bool :=
  match r.purpose with
  | .bypass _ _ => true
  | _ => false

/-- A record or CSB write, whose line is dealt with when it is issued (R142). -/
def Req.isRecordWrite (r : Req) : Bool :=
  match r.purpose with
  | .record _ | .csbSave | .event _ => true
  | _ => false

/-- A fill or Upgrade of a line holds a tag. -/
def Link.lineBusy (l : Link) (n : Nat) : Bool :=
  l.outstanding.any fun r => r.address / 64 == n &&
    (r.kind == .fetchShared || r.kind == .fetchOwned || r.kind == .upgrade)

/-- A request whose bytes a gather stage may read: a fill, or a ReadDirect of a stream (R40). -/
def Req.feedsGather (r : Req) : Bool :=
  match r.kind, r.purpose with
  | .fetchShared, _ | .fetchOwned, _ => true
  | .readDirect, .read _ _ => true
  | _, _ => false

/-- An older waiting request that must be issued before this one: one that waited on the same eviction entry, or a
bypass destination write of the same line, of any channel, which a gather stage must see and a later beat's write must
follow (R40, R143, R153; log 17). -/
def Req.behind (r earlier : Req) : Bool :=
  earlier.address / 64 == r.address / 64 &&
    ((r.kind.waitsOnEviction && earlier.waited && r.waited) ||
      (earlier.isBypass && (r.feedsGather || r.isBypass)))

/-- The service of a waiting request, given the older waiting ones (R142, R143, R155). -/
def State.service (s : State) (earlier : List Req) (r : Req) : Option Service :=
  let n := r.address / 64
  let tag : Option Service :=
    let free : Bool :=
      match r.purpose.usesData, r.owner with
      | true, .channel c => s.link.dataHeld c < Config.dataTagCap
      | _, _ => true
    if free then (s.link.freeTag r.purpose.usesData).map .issue else none
  if earlier.any r.behind then none
  else
    match r.kind == .readDirect, s.cache.line n with
    | true, some l =>
      if l.state != .invalid then some (.fromCache l) else if s.cache.evicting n then none else tag
    | _, _ =>
      if r.kind.waitsOnEviction && s.cache.evicting n then none
      else if r.isRecordWrite then
        if s.link.lineBusy n then none
        else
          match s.cache.line n with
          | some l =>
            if l.state == .dirty then (if tag.isSome && s.cache.room 1 then some (.moveDirty l) else none) else tag
          | none => tag
      else tag

/-- The first waiting request that `f` can serve, with the others. -/
def pickWaiting {α : Type} (f : List Req → Req → Option α) : List Req → List Req → Option (α × Req × List Req)
  | _, [] => none
  | before, r :: rest =>
    match f before r with
    | some a => some (a, r, before ++ rest)
    | none => pickWaiting f (before ++ [r]) rest

/-- Where the channel finds its next descriptor: step 1 of R10, or the next expedite entry (R123). -/
def Channel.nextLocation (h : Channel) : Option (RingId × Word64) :=
  if h.state == .expediting then
    if h.expedite.untaken then some (.expedite, BitVec.ofNat 64 h.expedite.fetch) else none
  else
    match h.listPos with
    | some a => some (.list, BitVec.ofNat 64 (reduceAddress h.compact a.toNat))
    | none => if h.normal.untaken then some (.normal, BitVec.ofNat 64 h.normal.fetch) else none

/-- The fetch position moves past the entry at it (R9). -/
def Ring.take (r : Ring) : Ring := { r with fetch := r.succ r.fetch }

/-- The first half of the next fetch is issued: the channel takes the entry, and the fetch position advances (R9, R12). -/
def Channel.taken (h : Channel) : Channel :=
  match h.phase, h.nextLocation with
  | .taking, some (ring, location) =>
    { h with
      phase := .fetching .waiting .waiting, current := some (Current.start 0 ring location),
      normal := if ring == .normal then h.normal.take else h.normal,
      expedite := if ring == .expedite then h.expedite.take else h.expedite }
  | _, _ => h

/-- What the service of a request does first: a descriptor half that still counts for its channel takes the entry. -/
def State.takeFor (s : State) (r : Req) : State :=
  match r.purpose, r.owner with
  | .descriptor _, .channel c => if r.orphan then s else s.modCh c Channel.taken
  | _, _ => s

/-- The line of an Upgrade is marked as it is issued (R136, R141; log 9). -/
def State.markUpgrade (s : State) (n : Nat) : State := s.modCache fun k => k.modLine n fun l => { l with upgrade := true }

/-- Issue a request by its traffic class. -/
def State.issueByClass (s : State) (t : TagId) (r : Req) : State :=
  let s := if r.isRecordWrite then s.dropClean (r.address / 64) else s
  let s := if r.kind == .upgrade then s.markUpgrade (r.address / 64) else s
  match r.purpose, r.owner with
  | .record _, .channel c => s.issueRecord t c r
  | .event _, _ => s.issueEvent t r
  | _, _ => (s.takeFor r).issue t r

/-- Serve the oldest request that can be served now (R155). -/
def State.serve (s : State) : Option State :=
  match pickWaiting s.service [] s.link.waiting with
  | none => none
  | some (what, r, others) =>
    match what with
    | .issue t => some (({ s with link := { s.link with waiting := others } }).issueByClass t r)
    | .fromCache l => some ((({ s with link := { s.link with waiting := others } }).takeFor r).deliverRead r (l.span r))
    | .moveDirty l =>
      some ((s.modCache fun k => k.modLine (r.address / 64) CacheLine.drop).evictLine (r.address / 64) l.bytes none)

/-- A matched response frees its tag; the generation bit and the stale mark stay (R156). -/
def State.freeOutstanding (s : State) (t : TagId) : State :=
  { s with link := s.link.putTag t { s.link.tag t with state := .free, record := none } }

/-- What expiry does to a tag: free and stale, or retired when it was stale (R156). -/
def Tag.expire (x : Tag) : Tag :=
  { state := if x.stale then .retired else .free, gen := !x.gen, stale := true, record := none }

/-- A discarded response (R156, R157): counted, and a stale mark of the generation it names is cleared; the
retirement of a tag is not.  This holds in every power state, Dormant and Waking too (DESIGN CHOICE, log 51). -/
def State.late (s : State) (t : TagId) (gen : Bool) : State :=
  let x := s.link.tag t
  let clears := x.stale && gen != x.gen
  let l := if clears then s.link.putTag t { x with stale := false } else s.link
  { s with link := { l with lateCount := satSucc l.lateCount } }

/-- The request a response answers, when it is matched (R156). -/
def Link.matched (l : Link) (t : TagId) (gen : Bool) : Option Req :=
  let x := l.tag t
  if x.state == .outstanding && x.gen == gen then x.record.map (·.req) else none

/-- An eviction buffer entry leaves: the requests that waited on it keep their order (R143). -/
def State.leaveEviction (s : State) (n : Nat) : State :=
  { s with
    cache := { s.cache with evict := s.cache.evict.filter fun e => e.line != n }
    link := { s.link with waiting := s.link.waiting.map fun r =>
      if r.kind.waitsOnEviction && r.address / 64 == n then { r with waited := true } else r } }

end Sys2Proof.Machine
end

