-- ==== Sys2Proof/Machine/Cached.lean ====
section
/-! DEFINITION. The operand cache at work for a beat: cached and bypass reads, victim choice, the sibling prefetch, and
the acquisition of destination lines (R137 to R142). -/
namespace Sys2Proof.Machine

/-- A way that may be a victim (R139). -/
def CacheWay.eligible (w : CacheWay) : Bool := !(w.lower.busy || w.upper.busy || w.lower.pinned || w.upper.pinned)

/-- Both lines of a way are Invalid. -/
def CacheWay.empty (w : CacheWay) : Bool := w.lower.state == .invalid && w.upper.state == .invalid

/-- How many lines of a way are Dirty. -/
def CacheWay.dirtyLines (w : CacheWay) : Nat := (w.lower.state == .dirty).toNat + (w.upper.state == .dirty).toNat

/-- A way pinned by the beat that holds the grant (R141). -/
def CacheWay.pinned (w : CacheWay) : Bool := w.lower.pinned || w.upper.pinned

/-- The victim of a set (R139). -/
def CacheSet.victim (x : CacheSet) : Option WayId :=
  match allWays.find? fun w => (x.way w).eligible && (x.way w).empty with
  | some w => some w
  | none => x.lru.reverse.find? fun w => (x.way w).eligible

/-- The line number of a line of a way. -/
def wayLine (i : SetId) (tag : Nat) (upper : Bool) : Nat := tag * 256 + i.val * 2 + upper.toNat

/-- A Dirty line of a way moves to the eviction buffer. -/
def State.evictIfDirty (s : State) (i : SetId) (w : CacheWay) (upper : Bool) (sweep : Option Nat) : State :=
  let l := w.line upper
  if l.state == .dirty then s.evictLine (wayLine i w.tag upper) l.bytes sweep else s

/-- A victim is chosen for a line and takes its tag; none where the access must wait (R139).  Of two Dirty lines the
lower one moves first (DESIGN CHOICE, log 41). -/
def State.takeWay (s : State) (n : Nat) : Option State :=
  let i := lineSet n
  match (s.cache.set i).victim with
  | none => none
  | some w =>
    let y := (s.cache.set i).way w
    if !s.cache.room y.dirtyLines then none
    else
      let s := (s.evictIfDirty i y false none).evictIfDirty i y true none
      let fresh : CacheWay := { tagValid := true, tag := lineTag n, lower := .reset, upper := .reset }
      some (s.modCache fun k => (k.putSet i ((k.set i).putWay w fresh)).touch i w)

/-- The way of an access moves to the front, once in a step of the beat (R137; log 11). -/
def State.touchOnce (s : State) (i : SetId) (w : WayId) : State :=
  match s.beat with
  | some b =>
    if b.touched.contains (i, w) then s
    else { s.modCache (fun k => k.touch i w) with beat := some { b with touched := (i, w) :: b.touched } }
  | none => s

/-- Note a way that an allocation has just moved to the front. -/
def State.noteTouched (s : State) (n : Nat) : State :=
  match s.cache.findWay n with
  | some w => s.modBeat fun b => { b with touched := (lineSet n, w) :: b.touched }
  | none => s

/-- Ask for a line: the fill-outstanding marker is set and the request becomes ready (R138, R141; log 9). -/
def State.askFill (s : State) (c : Chan) (n : Nat) (kind : ReqKind) (purpose : Purpose) : State :=
  (s.modCache fun k => k.modLine n fun l => { l with fill := true }).ask
    (Req.plain kind (n * 64) 64 (.channel c) purpose)

/-- Set the state of access `i` of the beat. -/
def State.setAccess (s : State) (i : Nat) (x : AccessState) : State :=
  s.modBeat fun b => { b with accesses := b.accesses.modify i fun a => { a with state := x } }

/-- The bytes an access takes from a line. -/
def Access.take (a : Access) (bytes : Line) : Nat := bytesAt bytes (a.address % 64) a.size

/-- A cached read (R138); none where it waits. -/
def State.readCached (s : State) (c : Chan) (i : Nat) (a : Access) : Option State :=
  let n := a.address / 64
  match s.cache.findWay n with
  | some w =>
    let l := ((s.cache.set (lineSet n)).way w).line (lineUpper n)
    if l.state != .invalid then some ((s.touchOnce (lineSet n) w).setAccess i (.got (a.take l.bytes)))
    else if l.fill then
      let own := match s.beat with
        | some b => b.accesses.any fun x => x.state == .onFill true && x.address / 64 == n
        | none => false
      some (s.setAccess i (.onFill own))
    else if l.upgrade then none
    else some ((s.askFill c n .fetchShared (.read a.stream false)).setAccess i (.onFill true))
  | none =>
    (s.takeWay n).map fun s => ((s.noteTouched n).askFill c n .fetchShared (.read a.stream true)).setAccess i (.onFill true)

/-- Two accesses of a bypass stream that one ReadDirect serves (R142; log 8). -/
def Access.sameDirect (a b : Access) : Bool :=
  !b.cached && b.state == .todo && a.stream == b.stream && a.address / 64 == b.address / 64

/-- A bypass read (R142): from the line when it is valid, otherwise one ReadDirect for the smallest span of the line
that the stream needs. -/
def State.readDirect (s : State) (c : Chan) (i : Nat) (a : Access) : State :=
  let n := a.address / 64
  let ask (s : State) : State :=
    match s.beat with
    | none => s
    | some b =>
      let group := b.accesses.filter a.sameDirect
      let lo := group.foldl (fun m x => min m x.address) a.address
      let hi := group.foldl (fun m x => max m (x.address + x.size)) (a.address + a.size)
      let mark (x : Access) : Access := if a.sameDirect x then { x with state := .onDirect } else x
      let s := s.modBeat fun b => { b with accesses := b.accesses.map mark }
      s.ask (Req.plain .readDirect lo (hi - lo) (.channel c) (.read a.stream false))
  match s.cache.line n with
  | some l => if l.state != .invalid then s.setAccess i (.got (a.take l.bytes)) else ask s
  | none => ask s

/-- Serve access `i` of the beat, if it still waits to be served and can be. -/
def State.readOne (s : State) (c : Chan) (i : Nat) : Option State :=
  match s.beat.bind fun b => b.accesses[i]? with
  | none => none
  | some a =>
    if a.state != .todo then none
    else if a.cached then s.readCached c i a
    else some (s.readDirect c i a)

/-- Apply `f` to each item in turn, keeping what changed; none when nothing did. -/
def tryEach {α : Type} (f : State → α → Option State) (s : State) (xs : List α) : Option State :=
  (xs.foldl (fun (acc : State × Bool) x =>
    match f acc.1 x with
    | some s => (s, true)
    | none => acc) (s, false)) |> fun r => if r.2 then some r.1 else none

/-- Serve every read of the beat that can be served now; none where there is none. -/
def State.readPass (s : State) (c : Chan) : Option State :=
  match s.beat with
  | none => none
  | some b => tryEach (fun s i => s.readOne c i) s (List.range b.accesses.length)

/-! ### Fill data -/

/-- The elements of line `n` that the beat waits for are taken (R138). -/
def State.takeFill (s : State) (n : Nat) (bytes : Line) : State :=
  s.modBeat fun b => { b with accesses := b.accesses.map fun a =>
    match a.state with
    | .onFill _ => if a.address / 64 == n then { a with state := .got (a.take bytes) } else a
    | _ => a }

/-- A fill of line `n` failed: its own reads fail, others ask again (R149). -/
def State.failFill (s : State) (n : Nat) (reason : FailReason) : State :=
  s.modBeat fun b => { b with
    accesses := b.accesses.map fun a =>
      match a.state with
      | .onFill own =>
        if a.address / 64 == n then { a with state := if own then .failed reason else .todo } else a
      | _ => a
    acqs := b.acqs.map fun q =>
      if q.line == n && q.state == .issued then { q with state := .failed reason } else q }

/-- An acquisition was answered: it is judged again by the line's state (R141). -/
def State.reopenAcq (s : State) (n : Nat) : State :=
  s.modBeat fun b => { b with acqs := b.acqs.map fun q =>
    if q.line == n && q.state == .issued then { q with state := .open_ } else q }

/-- The line state a grant gives (Table 9-1). -/
def Grant.lineState : Grant → LineState
  | .shared => .shared
  | .exclusive => .exclusive

/-- Data is installed in a line whose tag is still there and which is Invalid; the marker is cleared (R138, R140). -/
def Cache.install (k : Cache) (n : Nat) (state : LineState) (bytes : Line) : Cache :=
  k.modLine n fun l =>
    if l.state == .invalid then { l with state := state, bytes := bytes, fill := false } else { l with fill := false }

/-- An Upgrade of line `n` waits for a tag. -/
def Link.upgradeWaits (l : Link) (n : Nat) : Bool :=
  l.waiting.any fun r => r.kind == .upgrade && r.address / 64 == n

/-- The conditions of a sibling prefetch (R140).  A waiting Upgrade of the sibling counts as outstanding, for it will be
issued (R153; log 9). -/
def State.prefetchWanted (s : State) (c : Chan) (n : Nat) : Bool :=
  s.cache.prefetchOn &&
    (match s.cache.line (siblingLine n) with
      | some l => l.state == .invalid && !l.busy
      | none => false) &&
    !s.link.upgradeWaits (siblingLine n) && s.link.dataInUse < Config.prefetchLimit && s.link.dataHeld c < Config.dataTagCap

/-- Consider a sibling prefetch after a tag-miss fill for a cached read (R140; log 20).  The tests count the fill's own
tag as free, before an older waiting request takes it (DESIGN CHOICE, log 48).  The prefetch is the channel's request, and
becomes ready before the others of that channel at this place (DESIGN CHOICE, log 41).  A channel that has meanwhile entered
Faulted (log 20) or Error (DESIGN CHOICE, log 63) may start it too. -/
def State.considerPrefetch (s : State) (c : Chan) (n : Nat) : State :=
  if s.prefetchWanted c n then s.askFill c (siblingLine n) .fetchShared .prefetch else s

/-- Data for a FetchShared or FetchOwned (R138, R140, R141).  It is installed, and may start a prefetch, also where its channel
has entered Error since, although R5 has such a response change nothing (DESIGN CHOICE, log 63). -/
def State.fillData (s : State) (r : Req) (state : LineState) (bytes : Line) : State :=
  let n := r.address / 64
  let s := ((s.modCache fun k => k.install n state bytes).takeFill n bytes).reopenAcq n
  match r.purpose, r.owner with
  | .read _ true, .channel c => s.considerPrefetch c n
  | _, _ => s

/-- Done for an Upgrade: a line still Shared becomes Exclusive (R141).  One that has become Invalid stays so and is acquired
again: after a Probe-Invalidate, where the host owes Data (log 18), and after a lost write-back has taken the line's data
(R143; DESIGN CHOICE, log 61).  So for a channel in Error too (DESIGN CHOICE, log 63). -/
def State.upgradeDone (s : State) (n : Nat) : State :=
  (s.modCache fun k => k.modLine n fun l =>
    { l with upgrade := false, state := if l.state == .shared then .exclusive else l.state }).reopenAcq n

/-- Data for an Upgrade: installed Exclusive (R141, R148), for a channel in Error too (log 63). -/
def State.upgradeData (s : State) (n : Nat) (bytes : Line) : State :=
  (s.modCache fun k => k.modLine n fun l =>
    { l with upgrade := false, state := .exclusive, bytes := bytes }).reopenAcq n

/-- A fill or Upgrade failed (R149): the line keeps its state, its markers are cleared, for a channel in Error too (log 63). -/
def State.lineFail (s : State) (r : Req) (reason : FailReason) : State :=
  let n := r.address / 64
  (s.modCache fun k => k.modLine n fun l =>
    if r.kind == .upgrade then { l with upgrade := false } else { l with fill := false }).failFill n reason

/-! ### Destination lines -/

/-- Pin a line. -/
def State.pin (s : State) (n : Nat) : State := s.modCache fun k => k.modLine n fun l => { l with pinned := true }

/-- Note the state of an acquisition. -/
def State.setAcq (s : State) (n : Nat) (x : AcqState) : State :=
  s.modBeat fun b => { b with acqs := b.acqs.map fun q => if q.line == n then { q with state := x } else q }

/-- A line that the commit may write (R141): pinned, Exclusive or Dirty, and not in the eviction buffer. -/
def Cache.holds (k : Cache) (n : Nat) : Bool :=
  match k.line n with
  | some l => l.pinned && (l.state == .exclusive || l.state == .dirty) && !k.evicting n
  | none => false

/-- The Upgrade of line `n` that waits for a tag is withdrawn. -/
def State.dropUpgrade (s : State) (n : Nat) : State :=
  s.withdraw fun r => r.kind == .upgrade && r.address / 64 == n

/-- One row of the table of R141 for a destination line; none where there is nothing to do now.  An Upgrade that still
waits for a tag when its line is no longer Shared is withdrawn, and the line acquired again by the table (log 9). -/
def State.acquireOne (s : State) (c : Chan) (q : Acq) : Option State :=
  let n := q.line
  if q.state == .fallback then none
  else
    match s.cache.findWay n with
    | some w =>
      let l := ((s.cache.set (lineSet n)).way w).line (lineUpper n)
      let pinned := if l.pinned then none else some ((if l.state == .invalid then s else s.touchOnce (lineSet n) w).pin n)
      if l.state == .exclusive || l.state == .dirty || l.busy then pinned
      else
        let waits := s.link.upgradeWaits n
        let s' := pinned.getD s
        if l.state == .shared then
          if waits then pinned
          else some ((s'.setAcq n .issued).ask (Req.plain .upgrade (n * 64) 64 (.channel c) .acquire))
        else some (((if waits then s'.dropUpgrade n else s').setAcq n .issued).askFill c n .fetchOwned .acquire)
    | none =>
      let x := s.cache.set (lineSet n)
      if allWays.all fun w => (x.way w).pinned then some (s.setAcq n .fallback)
      else (s.takeWay n).map fun s => (((s.noteTouched n).pin n).setAcq n .issued).askFill c n .fetchOwned .acquire

/-- Go on with the acquisition of the beat's lines; none where there is nothing to do now. -/
def State.acquirePass (s : State) (c : Chan) : Option State :=
  match s.beat with
  | none => none
  | some b => tryEach (fun s q =>
      match (s.beat.bind fun b => b.acqs.find? fun x => x.line == q.line) with
      | some q => s.acquireOne c q
      | none => none) s b.acqs

/-- Every pin of the beat is released (R141). -/
def State.releasePins (s : State) (b : Beat) : State :=
  s.modCache fun k => b.acqs.foldl (fun k q => k.modLine q.line fun l => { l with pinned := false }) k

end Sys2Proof.Machine
end

