-- ==== Sys2Proof/Machine/Channels.lean ====
section
/-! DEFINITION. The channel sequencer: faults (R96 to R101), Error (R109), descriptors (R10 to R26), saving and restoring
(R111 to R119), expedited work (R120 to R124), and Channel Reset (R31, R173). -/
namespace Sys2Proof.Machine

/-! ### Requests given up -/

/-- A request of the channel's beat: a read or an acquisition. -/
def Req.isBeatRead (r : Req) : Bool :=
  match r.purpose with
  | .read _ _ | .acquire => true
  | _ => false

/-- A sibling prefetch, which belongs to no beat (R140). -/
def Req.isPrefetch (r : Req) : Bool := r.purpose == .prefetch

/-- The requests that `p` picks no longer count for their channel. -/
def State.orphan (s : State) (p : Req → Bool) : State :=
  let f (r : Req) : Req := if p r then { r with orphan := true } else r
  let l := s.link.mapOutstanding f
  { s with link := { l with waiting := l.waiting.map f } }

/-- A channel gives up requests: the waiting ones are withdrawn, the others run to their end without an outcome. -/
def State.giveUp (s : State) (p : Req → Bool) : State := (s.withdraw p).orphan p

/-- The grant of a channel is released and its pins with it (R32, R141). -/
def State.releaseGrant (s : State) (c : Chan) : State :=
  match s.beat with
  | some b => if b.chan == c then { s.releasePins b with beat := none } else s
  | none => s

/-- A beat in progress is discarded uncommitted (R31, R96, R109). -/
def State.discardBeat (s : State) (c : Chan) : State :=
  match s.beat with
  | some b => if b.chan == c then (s.releaseGrant c).giveUp fun r => r.isOf c && r.isBeatRead else s
  | none => s

/-- The channel holds the grant. -/
def State.granted (s : State) (c : Chan) : Bool :=
  match s.beat with
  | some b => b.chan == c
  | none => false

/-! ### Faults -/

/-- A fault record of the channel's current descriptor, with every field its kind does not use at None or 0 (R97). -/
def Channel.faultRec (h : Channel) (kind : FaultKind) (sub : SubKind) : FaultRec :=
  { FaultRec.reset with
      valid := true, ring := (h.current.map (·.ring)).getD .none,
      location := (h.current.map (·.location)).getD 0, kind := kind, sub := sub }

/-- A fault of a beat (R97). -/
def FaultKind.ofBeat (k : FaultKind) : Bool := k == .arithmetic || k == .address || k == .memory

/-- The detail of a Job Fault event (R98). -/
def FaultRec.eventDetail (f : FaultRec) : Word64 :=
  match f.kind with
  | .address | .memory | .descriptorFetch => f.address
  | .arithmetic => BitVec.ofNat 64 f.beat
  | .none | .descriptor | .link | .control => 0

/-- The Job Fault event of a fault (R98). -/
def FaultRec.event (f : FaultRec) (c : Chan) (auto : Bool) : Event :=
  { kind := .jobFault, channel := some c, ring := f.ring, auto := auto, sequence := 0, status := f.eventStatus,
    location := f.location, detail := f.eventDetail }

/-- The channel after it has raised a fault (R96).  Pending-park is kept (DEDUCED from R116, log 45).  The fault count grows
without bound, and its four bytes in a record and a block hold it modulo 2^32 (DESIGN CHOICE, log 59). -/
def Channel.faulted (h : Channel) (f : FaultRec) : Channel :=
  let count (x : Current) : Current := { x with faults := if f.kind.ofBeat then x.faults + 1 else x.faults, fails := [] }
  { h with
    state := .faulted, fault := f, current := h.current.map count, phase := if f.kind.ofBeat then .job else .ready,
    resumeExpedite := f.ring == .expedite, claim := none, owedAttempt := .none, pendingFault := none,
    progressOwed := false }

/-- A channel enters Faulted (R96). -/
def State.enterFaulted (s : State) (c : Chan) (f : FaultRec) : State :=
  ((s.discardBeat c).modCh c fun h => h.faulted f).post (f.event c false)

/-- A beat found a fault: its grant is released, and the channel enters Faulted when no bypass write of the job is
outstanding (R96). -/
def State.raiseBeatFault (s : State) (c : Chan) (f : FaultRec) : State :=
  (s.releaseGrant c).modCh c fun h => { h with pendingFault := some f }

/-- A set of lanes. -/
def laneSet (lanes : List Nat) : LaneSet := lanes.foldl (fun m j => m ||| (1#32 <<< j)) 0

/-- The lane with the lowest number. -/
def lowestLane {α : Type} (xs : List (Nat × α)) : Option (Nat × α) :=
  xs.foldl (fun best x =>
    match best with
    | none => some x
    | some y => if x.1 < y.1 then some x else best) none

/-- The lowest beat with a failed bypass write (R100). -/
def lowestFail (fails : List FailedWrite) : Nat :=
  match fails with
  | [] => 0
  | x :: xs => xs.foldl (fun m f => min m f.beat) x.beat

/-- The commit-phase Memory fault of the failed bypass writes of a job, and the job set back to its beat (R100). -/
def Channel.commitFault (h : Channel) (x : Current) : FaultRec × Channel :=
  let b := lowestFail x.fails
  let lanes := (x.fails.filter (·.beat == b)).flatMap fun f => f.lanes.map fun l => (l.1, l.2, f.reason)
  let (address, reason) := match lowestLane lanes with
    | some l => l.2
    | none => (0, .memoryError)
  ({ h.faultRec .memory (FailReason.sub reason) with
      phase := .commit, beat := b, lanes := laneSet (lanes.map (·.1)), stream := .d, address := BitVec.ofNat 64 address },
   { h with current := some { x with beat := b, committed := x.committed - (x.beat - b) } })

/-- A pending fault is raised when the job's last bypass write has ended (R96, R100). -/
def State.settleFault (s : State) (c : Chan) (h : Channel) : Option State :=
  if s.bypassOutstanding c then none
  else
    match h.current with
    | some x =>
      if !x.fails.isEmpty then
        let (f, h) := h.commitFault x
        some ((s.setCh c h).enterFaulted c f)
      else h.pendingFault.map fun f => s.enterFaulted c f
    | none => none

/-! ### Error -/

/-- A channel enters Error (R109); in Error nothing changes. -/
def State.enterError (s : State) (c : Chan) (cause : ErrCause) (kind : EventKind) (detail : Word64) : State :=
  if (s.ch c).state == .error then s
  else
    let s := (s.discardBeat c).giveUp fun r => r.isOf c && !r.isPrefetch
    (s.modCh c fun h =>
      { h with state := .error, cause := cause, claim := none, owedAttempt := .none, pendingFault := none, save := none,
               restore := none, progressOwed := false }).post
      (Event.simple kind (some c) (BitVec.ofNat 16 cause.code) detail)

/-! ### Completion -/

/-- The consumer index, or the list position, moves past the current descriptor (R9, R26). -/
def Channel.advance (h : Channel) (x : Current) : Channel :=
  match x.ring with
  | .normal => { h with normal := { h.normal with consumer := h.normal.succ x.location.toNat } }
  | .expedite => { h with expedite := { h.expedite with consumer := h.expedite.succ x.location.toNat } }
  | .list => { h with listPos := h.listPos.map (nextListAddress h.compact) }
  | .none => h

/-- The current descriptor is left: back to step 1 of R10; a Draining channel has drained (R30). -/
def Channel.leave (h : Channel) : Channel :=
  { h with current := none, phase := if h.state == .draining then .drained else .choose, progressOwed := false,
           owedAttempt := .none }

/-- The current descriptor has completed (R17 step 3). -/
def Channel.finish (h : Channel) : Channel :=
  match h.current with
  | some x => (h.advance x).leave
  | none => h.leave

/-- The current descriptor completes with a status (R17 steps 2 to 4): the completion record write becomes ready, or,
without a completion address, the descriptor completes now. -/
def State.complete (s : State) (c : Chan) (status : Status) : State :=
  let h := s.ch c
  match h.current with
  | none => s
  | some x =>
    let address := descCompletion h.compact x.image
    if address == 0 then
      let s := s.modCh c Channel.finish
      if descNotify x.image then s.post (jobCompleteEvent c status x 0 0) else s
    else
      (s.modCh c fun h => { h with phase := .completing status false }).ask
        (Req.write address (byteMask (address % 64) 32) 0 (.channel c) (.record none))

/-- The status of a job whose beats have all been committed or skipped (R17). -/
def Current.endStatus (x : Current) : Status := if x.skipped == 0 then .completed else .completedWithSkips

/-! ### Taking and executing descriptors -/

/-- The address of a descriptor (R7, R12, R89). -/
def Channel.descAddress (h : Channel) (ring : RingId) (location : Word64) : Nat :=
  match ring with
  | .normal => reduceAddress h.compact (h.normal.base.toNat + 128 * location.toNat)
  | .expedite => reduceAddress h.compact (h.expedite.base.toNat + 128 * location.toNat)
  | .list | .none => reduceAddress h.compact location.toNat

/-- One half of a descriptor fetch: from the cache when the line is valid there, else by a ReadDirect (R12). -/
def State.fetchHalf (s : State) (c : Chan) (address : Nat) (upper : Bool) : State :=
  let r := Req.plain .readDirect address 64 (.channel c) (.descriptor upper)
  match s.cache.line (address / 64) with
  | some l => if l.state != .invalid then (s.takeFor r).deliverRead r l.bytes else s.ask r
  | none => s.ask r

/-- The two halves of a descriptor fetch are asked for (R12), the lower one first (DESIGN CHOICE, log 41). -/
def State.fetchHalves (s : State) (c : Chan) (ring : RingId) (location : Word64) : State :=
  let address := (s.ch c).descAddress ring location
  (s.fetchHalf c address false).fetchHalf c (address + 64) true

/-- The fetch of a descriptor already taken begins again (R103). -/
def State.startFetch (s : State) (c : Chan) (ring : RingId) (location : Word64) : State :=
  (s.modCh c fun h =>
    { h with phase := .fetching .waiting .waiting, current := some (Current.start 0 ring location) }).fetchHalves
    c ring location

/-- The fetch at the next location begins.  Nothing is taken until its first half is issued, or served from the cache
(R9, R10, R155; log 38). -/
def State.startTaking (s : State) (c : Chan) (ring : RingId) (location : Word64) : State :=
  (s.modCh c fun h => { h with phase := .taking }).fetchHalves c ring location

/-- A fetch of which nothing is issued is withdrawn, and the channel chooses again (R8, R10, R155; log 38). -/
def State.stopTaking (s : State) (c : Chan) : State :=
  let half (r : Req) : Bool := r.isOf c &&
    match r.purpose with
    | .descriptor _ => true
    | _ => false
  (s.withdraw half).modCh c fun h => { h with phase := .choose }

/-- Both halves have ended: a Descriptor-fetch fault, a Descriptor fault, or a validated descriptor (R12, R16). -/
def State.fetched (s : State) (c : Chan) (lo hi : FetchHalf) : State :=
  let h := s.ch c
  let ring := (h.current.map (·.ring)).getD .none
  let location := (h.current.map (·.location)).getD 0
  let address := h.descAddress ring location
  let failed (reason : FailReason) (a : Nat) : State :=
    s.enterFaulted c { h.faultRec .descriptorFetch (FailReason.sub reason) with address := BitVec.ofNat 64 a }
  match lo, hi with
  | .failed r, _ => failed r address
  | _, .failed r => failed r (address + 64)
  | .got x, .got y =>
    let image : DescImage := y ++ x
    let s := s.modCh c fun h => { h with current := some (Current.start image ring location), phase := .ready }
    if validDescriptor h.compact ring image then s else s.enterFaulted c (h.faultRec .descriptor .none)
  | _, _ => s

/-- The Control check of a SET CONTROL (R63). -/
def updateMaskLegal (mask : Nat) : Bool := (BitVec.ofNat 64 mask) &&& ~~~(Config.acwMask.setWidth 64) == 0

/-- A SET CONTROL (R19, R63). -/
def State.execSetControl (s : State) (c : Chan) (h : Channel) (x : Current) : State :=
  let mask := descUpdateMask x.image
  if updateMaskLegal mask then
    let acw := acwUpdate h.acw (BitVec.ofNat 32 mask) (BitVec.ofNat 32 (descImmediate x.image))
    (s.modCh c fun h => { h with acw := acw }).complete c .completed
  else s.enterFaulted c (h.faultRec .control .none)

/-- A write that a FENCE counts is outstanding (R20). -/
def State.fenceBlocked (s : State) (c : Chan) : Bool := s.recordOutstanding c || s.bypassOutstanding c

/-- A FENCE (R20). -/
def State.execFence (s : State) (c : Chan) : State :=
  if s.fenceBlocked c then
    s.modCh c fun h => { h with phase := .fence, state := if h.state == .running then .waiting else h.state }
  else s.complete c .completed

/-- A FLUSH (R21): its request enters the sweep queue (R145). -/
def State.execFlush (s : State) (c : Chan) : State :=
  (s.modCh c fun h => { h with phase := .flushing none }).modCache (·.request (.flush c))

/-- The link stack entry a CALL pushes (R24).  A CALL from a list on an empty stack, which a restore can bring about, has
no entry below it; its held slot is 0 (DESIGN CHOICE, log 49). -/
def Channel.callEntry (h : Channel) (x : Current) : LinkEntry :=
  if x.ring == .list then
    { kind := .listAddress, next := nextListAddress h.compact x.location, held := (h.links.head?.map (·.held)).getD 0 }
  else
    { kind := .ringPosition, next := BitVec.ofNat 64 (h.normal.succ x.location.toNat), held := x.location.toNat }

/-- A CALL (R24). -/
def State.execCall (s : State) (c : Chan) (h : Channel) (x : Current) : State :=
  if Config.linkEntries ≤ h.links.length then s.enterFaulted c (h.faultRec .link .overflow)
  else
    s.modCh c fun h =>
      ({ h with links := h.callEntry x :: h.links,
                listPos := some (BitVec.ofNat 64 (descTarget h.compact x.image)) }).leave

/-- A RETURN (R25).  In compact mode it is the fetch at the list position that reduces it, not the pop (R89; DESIGN
CHOICE, log 54). -/
def State.execReturn (s : State) (c : Chan) (h : Channel) : State :=
  match h.links with
  | [] => s.enterFaulted c (h.faultRec .link .underflow)
  | e :: rest =>
    s.modCh c fun h =>
      match e.kind with
      | .listAddress => ({ h with links := rest, listPos := some e.next }).leave
      | .ringPosition =>
        ({ h with links := rest, listPos := none,
                  normal := { h.normal with consumer := h.normal.succ e.held } }).leave

/-- The job of an OPERATION of length 0: no beat committed or skipped, and an empty job-local flag set, also where a block
restored it (R18, R119). -/
def Current.emptied (x : Current) : Current := { x with committed := 0, skipped := 0, flags := 0 }

/-- A validated descriptor is executed (R17 to R25). -/
def State.execute (s : State) (c : Chan) (h : Channel) (x : Current) : State :=
  match descKind x.image with
  | some .operation =>
    if descLength x.image == 0 then
      (s.modCh c fun h => { h with current := h.current.map Current.emptied }).complete c .empty
    else s.modCh c fun h => { h with phase := .job }
  | some .setControl => s.execSetControl c h x
  | some .fence => s.execFence c
  | some .flush => s.execFlush c
  | some .call => s.execCall c h x
  | some .ret => s.execReturn c h
  | some .marker => s.complete c .completed
  | none => s

/-! ### Saving -/

/-- One write of the save sequence: `n` bytes from byte `off` of the block, within one line (R113). -/
def saveWrite (c : Chan) (v : Save) (off n : Nat) (zero : Bool) : Req :=
  let bytes : Line := if zero then 0 else BitVec.ofNat 512 (bytesAt v.image (off / 64 * 64) 64)
  Req.write (v.address.toNat + off) (byteMask (off % 64) n) bytes (.channel c) .csbSave

/-- The writes of a stage of the save sequence (R113). -/
def saveStageWrites (c : Chan) (v : Save) : List Req :=
  match v.stage with
  | 1 => [saveWrite c v 0 8 true]
  | 2 => saveWrite c v 8 56 false :: ([64, 128, 192, 256, 320, 384, 448].map fun off => saveWrite c v off 64 false)
  | _ => [saveWrite c v 0 8 false]

/-- The channel begins a stage of its save. -/
def State.saveStage (s : State) (c : Chan) (v : Save) : State :=
  (saveStageWrites c v).foldl (fun s r => s.ask r) (s.modCh c fun h => { h with save := some v })

/-- The channel enters Saving (R112, R113) and leaves the progress-owed set (R165). -/
def State.beginSave (s : State) (c : Chan) (origin : Origin) : State :=
  let h := s.ch c
  let v : Save := { origin := origin, stage := 1, address := h.csbUsed, image := csbEncode h h.state origin }
  (s.modCh c fun h =>
    { h with state := .saving, claim := none, owedAttempt := .none, progressOwed := false }).saveStage c v

/-- The save is complete (R115, R121). -/
def State.saveDone (s : State) (c : Chan) (v : Save) : State :=
  match v.origin with
  | .explicit =>
    (s.modCh c fun h => { h with state := .parked, save := none, pendingPark := false }).post
      (Event.simple .parked (some c) 0 v.address)
  | .automatic =>
    s.modCh c fun h =>
      { h with state := .expediting, save := none, expFrom := some .saved, current := none, phase := .choose }

/-- A stage of the save has ended: the next begins, or the save is complete (R113). -/
def State.saveStep (s : State) (c : Chan) (h : Channel) : Option State :=
  match h.save with
  | none => none
  | some v =>
    if s.saveOutstanding c then none
    else if v.stage < 3 then some (s.saveStage c { v with stage := v.stage + 1 })
    else some (s.saveDone c v)

/-! ### Restoring -/

/-- The channel enters Restoring and reads the block (R117). -/
def State.beginRestore (s : State) (c : Chan) (byUnpark : Bool) : State :=
  let a := (s.ch c).csbUsed
  let x : Restore := { byUnpark := byUnpark, address := a, image := 0, missing := [0, 1, 2, 3, 4, 5, 6, 7] }
  [0, 1, 2, 3, 4, 5, 6, 7].foldl
    (fun s i => s.ask (Req.plain .readDirect (a.toNat + 64 * i) 64 (.channel c) (.csbRead i)))
    (s.modCh c fun h => { h with state := .restoring, restore := some x, expFrom := none })

/-- The place a restored descriptor goes on from under Continue (R119).  An Idle channel goes on from step 1 of R10,
whatever descriptor its block names (DESIGN CHOICE, log 53). -/
def Current.restoredPhase (x : Current) (state : ChState) : Phase :=
  if state == .idle then .choose
  else if state == .waiting then .fence
  else if x.isOperation && descLength x.image != 0 then
    if x.beat == descBeats x.image then .ending else .job
  else .ready

/-- The channel takes up the context of a valid block (R119), before the restart choice.  A descriptor in a block saved
in Idle is kept for the next save and never executed (DESIGN CHOICE, log 53). -/
def Channel.takeContext (h : Channel) (b : CsbImage) : Channel :=
  let state := (csbState b).getD .idle
  let current := csbCurrent b
  { h with
    state := state, restore := none, links := (csbLinks b).reverse,
    listPos := if csbHasList b then some (csbListPos b) else none, acw := csbAcw b, current := current,
    phase := (current.map fun x => x.restoredPhase state).getD .choose }

/-- Continue: in Running or Waiting, a descriptor other than a job with beats left is executed, its FENCE judged, or its
job ended, before a park may begin (R119; log 36). -/
def Channel.continued (h : Channel) : Channel :=
  let atOnce : Bool :=
    match h.phase with
    | .ready | .fence | .ending => true
    | _ => false
  if atOnce && (h.state == .running || h.state == .waiting) then { h with owedAttempt := .restored } else h

/-- The restart choice is applied (R119). -/
def State.applyRestart (s : State) (c : Chan) (choice : Restart) : State :=
  match choice with
  | .continue_ => s.modCh c Channel.continued
  | .restartJob =>
    let again (x : Current) : Current := { x with beat := 0, committed := 0, skipped := 0, faults := 0, flags := 0 }
    s.modCh c fun h => { h with current := h.current.map again, phase := .ready }
  | .abandonJob => s.complete c .abandoned
  | .skipWait => (s.modCh c fun h => { h with state := .running }).complete c .skipped

/-- Pending-park, then a latched expedite doorbell, claim a park (R116, R119, R120), also while a quiesce or Fatal hold that
has not reached the channel is in force (DESIGN CHOICE, log 52). -/
def Channel.claimAfterRestore (h : Channel) : Channel :=
  if h.pendingPark then { h with claim := some .explicit }
  else if (h.state == .running || h.state == .waiting) && h.expediteLatched && h.csbAddress != 0 then
    { h with claim := some .automatic }
  else h

/-- All reads have returned: the block is validated and taken up (R118, R119). -/
def State.restoreStep (s : State) (c : Chan) (h : Channel) : Option State :=
  match h.restore with
  | none => none
  | some x =>
    if !x.missing.isEmpty then none
    else
      match csbCheck h x.image with
      | some cause => some (s.enterError c cause .unparkFailed x.address)
      | none =>
        let s := s.modCh c fun h => h.takeContext x.image
        let s := if x.byUnpark then s.post (Event.simple .unparked (some c) 0 x.address) else s
        let s := s.applyRestart c ((csbRestart x.image).getD .continue_)
        some (s.modCh c Channel.claimAfterRestore)

/-! ### Expedited work -/

/-- The channel enters Expediting without a save (R122). -/
def Channel.enterExpediting (h : Channel) (origin : ExpFrom) : Channel :=
  { h with state := .expediting, shadow := some h.acw, expFrom := some origin, current := none, phase := .choose }

/-- The live ACW is replaced by the shadow (R123). -/
def Channel.takeShadow (h : Channel) : Channel := { h with acw := h.shadow.getD h.acw, shadow := none, expFrom := none }

/-- Expedite work ends (R123).  Where it began from Idle and pending-park is set, the save is at the CSB address of that
moment, also where that address has been written 0 since (DESIGN CHOICE, log 60). -/
def State.expediteEnd (s : State) (c : Chan) (h : Channel) : State :=
  match h.expFrom with
  | some .saved =>
    if h.pendingPark then
      (s.modCh c fun h => { h with state := .parked, pendingPark := false, expFrom := none }).post
        (Event.simple .parked (some c) 0 h.csbUsed)
    else s.beginRestore c false
  | some .idle | none =>
    let s := s.modCh c fun h => { h.takeShadow with state := .idle }
    if h.pendingPark then s.beginSave c .explicit else s
  | some .parked => s.modCh c fun h => { h.takeShadow with state := .parked }

/-! ### The sequencer -/

/-- The channel stands between two steps, so that a hold can take effect (R6, R10, R163). -/
def State.atBoundary (s : State) (c : Chan) (h : Channel) : Bool :=
  match h.state with
  | .saving | .restoring => false
  | .disabled | .idle | .parked | .faulted | .error => true
  | .running | .waiting | .draining | .expediting =>
    !s.granted c && h.pendingFault.isNone && ((h.current.map (·.fails.isEmpty)).getD true) &&
      match h.phase with
      | .fetching _ _ | .flushing _ | .completing _ _ => false
      | .choose | .taking | .ready | .job | .ending | .fence | .drained => true

/-- The power states in which the quiesce hold applies (R163). -/
def PowerState.holds : PowerState → Bool
  | .quiescing | .quiesced | .dormantEntry | .dormant | .waking => true
  | .active | .doze => false

/-- A hold takes effect (R6, R133, R163). -/
def State.applyHold (s : State) (c : Chan) (h : Channel) : Option State :=
  let quiesce := s.device.power.holds && !h.progressOwed
  if ((quiesce && !h.heldQuiesce) || (s.engine.fatal && !h.heldFatal)) && s.atBoundary c h then
    some (s.setCh c { h with heldQuiesce := h.heldQuiesce || quiesce, heldFatal := h.heldFatal || s.engine.fatal })
  else none

/-- The data requests that a reset channel still waits for (R31): prefetches are not among them. -/
def Link.drains (l : Link) (c : Chan) : Bool :=
  l.requests.any fun r => r.owner == .channel c && r.orphan && r.purpose.usesData && !r.isPrefetch

/-- The reset-draining flag clears (R31); a Soft Init clears it at its completion (R172). -/
def State.endDrain (s : State) (c : Chan) (h : Channel) : Option State :=
  if h.resetDraining && !s.device.softInit && !s.link.drains c then some (s.setCh c { h with resetDraining := false })
  else none

/-- A claimed park may begin at this boundary (R115, R124). -/
def State.parkNow (s : State) (c : Chan) (h : Channel) : Option Origin :=
  if h.held || h.owedAttempt != .none || s.bypassOutstanding c then none else h.claim

/-- Step 1 of R10: the next location, or the end of the work. -/
def State.chooseNext (s : State) (c : Chan) (h : Channel) : State :=
  match h.nextLocation with
  | some (ring, location) => s.startTaking c ring location
  | none =>
    if h.state == .expediting then s.expediteEnd c h
    else s.modCh c fun h => { h with state := if h.state == .draining then .disabled else .idle }

/-- The FLUSH of a channel is complete: its sweep has ended and its entries have left the buffer (R145). -/
def Cache.sweepOver (k : Cache) (number : Nat) : Bool :=
  (match k.sweep with
    | some w => w.number != number
    | none => true) && !k.evict.any fun e => e.sweep == some number

/-- The next thing a working channel does: Running, Draining or Expediting. -/
def State.workStep (s : State) (c : Chan) (h : Channel) : Option State :=
  match s.settleFault c h with
  | some s => some s
  | none =>
    if h.pendingFault.isSome || !((h.current.map (·.fails.isEmpty)).getD true) then none
    else
      match h.phase with
      | .choose =>
        if h.held then none
        else
          match s.parkNow c h with
          | some o => some (s.beginSave c o)
          | none => some (s.chooseNext c h)
      | .taking =>
        if h.held || (s.parkNow c h).isSome || h.nextLocation.isNone then some (s.stopTaking c) else none
      | .fetching lo hi => if lo == .waiting || hi == .waiting then none else some (s.fetched c lo hi)
      | .ready =>
        if h.held then none
        else
          match s.parkNow c h with
          | some o => some (s.beginSave c o)
          | none => h.current.map fun x => s.execute c h x
      | .job => if s.granted c then none else (s.parkNow c h).map fun o => s.beginSave c o
      | .ending =>
        if s.bypassOutstanding c then none
        else
          match s.parkNow c h with
          | some o => some (s.beginSave c o)
          | none => h.current.map fun x => s.complete c x.endStatus
      | .fence => if h.held || s.fenceBlocked c then none else some (s.complete c .completed)
      | .flushing (some n) => if s.cache.sweepOver n then some (s.complete c .completed) else none
      | .flushing none => none
      | .completing _ issued => if issued then some (s.modCh c Channel.finish) else none
      | .drained => if h.held then none else some (s.modCh c fun h => { h with state := .disabled, phase := .choose })

/-- The next thing an Idle channel does (R11).  A park claimed at the end of a restore saves first (R116), at the CSB
address of that moment (DESIGN CHOICE, log 43, log 46).  Work drops the descriptor of a block saved in Idle (log 53). -/
def State.idleStep (s : State) (c : Chan) (h : Channel) : Option State :=
  if h.held then none
  else
    match h.claim with
    | some o => some (s.beginSave c o)
    | none =>
      if h.expediteLatched then some (s.setCh c (h.enterExpediting .idle))
      else if h.listPos.isSome || h.normal.untaken then some (s.setCh c { h with state := .running, current := none, phase := .choose })
      else none

/-- The next thing a Waiting channel does (R20, R115); a FENCE just restored is judged before a claimed park (R119). -/
def State.waitStep (s : State) (c : Chan) (h : Channel) : Option State :=
  if h.held then none
  else
    match h.claim, h.owedAttempt with
    | some o, .none => some (s.beginSave c o)
    | _, owed =>
      if !s.fenceBlocked c then some ((s.modCh c fun h => { h with state := .running }).complete c .completed)
      else if owed == .restored then some (s.modCh c fun h => { h with owedAttempt := .none })
      else none

/-- The next thing a channel does of its own accord; none when it has nothing to do now. -/
def State.chanStep (s : State) (c : Chan) : Option State :=
  let h := s.ch c
  match s.endDrain c h with
  | some s => some s
  | none =>
    match s.applyHold c h with
    | some s => some s
    | none =>
      match h.state with
      | .disabled | .faulted | .error => none
      | .idle => s.idleStep c h
      | .running | .draining | .expediting => s.workStep c h
      | .waiting => s.waitStep c h
      | .parked => if !h.held && h.expediteLatched then some (s.setCh c (h.enterExpediting .parked)) else none
      | .saving => s.saveStep c h
      | .restoring => s.restoreStep c h

/-! ### Channel Reset -/

/-- A ring after a reset that keeps its base and size (R173). -/
def Ring.rewind (r : Ring) : Ring := { r with producer := 0, consumer := 0, fetch := 0 }

/-- The channel's own values after a Channel Reset (R173, R174). -/
def Channel.afterReset (h : Channel) : Channel :=
  { Channel.reset with
    heldQuiesce := h.heldQuiesce, heldFatal := h.heldFatal, compact := h.compact, normal := h.normal.rewind,
    expedite := h.expedite.rewind, csbAddress := h.csbAddress, apertures := h.apertures }

/-- A Channel Reset (R31, R173). -/
def State.channelReset (s : State) (c : Chan) : State :=
  let s := (s.discardBeat c).giveUp fun r => r.owner == .channel c && !r.isPrefetch
  let s := s.modCache fun k => { k with queue := k.queue.filter fun q => q.kind != .flush c }
  s.modCh c fun h => { h.afterReset with resetDraining := s.link.drains c || (h.resetDraining && s.device.softInit) }

end Sys2Proof.Machine
end

