-- ==== Sys2Proof/Machine/Beats.lean ====
section
/-! DEFINITION. The beat arbiter and the granted beat: address rounds, gather, compute, scatter, commit (R32, R33, R38 to
R40, R75 to R79, R93, R94, R99, R141, R142). -/
namespace Sys2Proof.Machine

/-! ### The arbiter -/

/-- A channel is a candidate for a beat grant (R32). -/
def State.candidate (s : State) (c : Chan) : Bool :=
  let h := s.ch c
  (h.state == .running || h.state == .draining || h.state == .expediting) && h.phase == .job &&
    (match h.current with
      | some x => x.isOperation && x.beat < descBeats x.image && x.fails.isEmpty
      | none => false) &&
    h.pendingFault.isNone && !h.held && (h.claim.isNone || h.owedAttempt != .none)

/-- The channels in cyclic order after a pointer (R33). -/
def cyclicFrom (p : Chan) : List Chan := [p + 1, p + 2, p + 3, p]

/-- The channel a class grants, if any (R33): candidates that cannot obtain a data tag are skipped. -/
def State.classChoice (s : State) (expediting : Bool) (p : Chan) : Option Chan :=
  (cyclicFrom p).find? fun c =>
    ((s.ch c).state == .expediting) == expediting && s.candidate c && s.link.dataAvailable c

/-- The arbiter's decision: the channel, and the pointers it leaves (R33). -/
def State.arbiterChoice (s : State) : Option (Chan × State) :=
  match s.classChoice true s.expeditePtr with
  | some c => some (c, { s with expeditePtr := c })
  | none =>
    match s.classChoice false s.normalPtr with
    | some c => some (c, { s with normalPtr := c })
    | none => none

/-! ### Address rounds and accesses -/

/-- The address an access uses once it has passed its checks. -/
def elementAddress (compact : Bool) (d : DescImage) (beat lane : Nat) (indices : List (Nat × StreamId × Nat))
    (st : StreamId) : Nat :=
  let sp := descStream d st
  let exact :=
    if isIndexed d st then dataAddress compact sp (streamSize d st) (indexOf indices lane st)
    else exactAddress compact sp (streamSize d st) (beat * descLanes d + lane)
  (exact % (if compact then (2 ^ 32 : Nat) else (2 ^ 64 : Nat) : Nat)).toNat

/-- The index entry reads of a beat (R93 step 2), by lane, then by stream; their order is a DESIGN CHOICE (log 41). -/
def indexAccesses (round : List RoundAccess) (d : DescImage) : List Access :=
  (round.filter (·.entry)).map fun x =>
    { lane := x.lane, stream := x.stream, address := x.address, size := x.size, cached := !streamBypass d x.stream,
      state := .todo : Access }

/-- The source reads of a beat (R93 step 4), by lane, then by stream; their order is a DESIGN CHOICE (log 41). -/
def sourceAccesses (compact : Bool) (d : DescImage) (beat : Nat) (indices : List (Nat × StreamId × Nat)) : List Access :=
  (activeLanes d beat).flatMap fun j => (descOperation d).sources.map fun st =>
    { lane := j, stream := st, address := elementAddress compact d beat j indices st, size := streamSize d st,
      cached := !streamBypass d st, state := .todo : Access }

/-- The Address fault a failed round gives (R94). -/
def addressFault (h : Channel) (beat : Nat) (x : RoundAccess) (sub : SubKind) (address : Word64) : FaultRec :=
  { h.faultRec .address sub with
      beat := beat, lanes := laneSet [x.lane], stream := if x.entry then .index else x.stream, address := address }

/-- A beat in its source stage (R93 step 4). -/
def Beat.toSource (b : Beat) (h : Channel) (x : Current) (indices : List (Nat × StreamId × Nat)) : Beat :=
  { b with stage := .source, indices := indices, accesses := sourceAccesses h.compact x.image x.beat indices,
           touched := [] }

/-- An attempt at a beat begins: the first round, then the index reads or the source reads (R93, R95). -/
def State.startAttempt (s : State) (c : Chan) (fullMasked : Bool) : State :=
  let h := s.ch c
  match h.current with
  | none => s
  | some x =>
    let b : Beat :=
      { chan := c, fullMasked := fullMasked, stage := .index, accesses := [], indices := [], dest := [], conds := 0,
        acqs := [], touched := [] }
    let round := firstRound h.compact h.apertures x.image x.beat
    match roundFailure round with
    | some (a, sub, address) => ({ s with beat := some b }).raiseBeatFault c (addressFault h x.beat a sub address)
    | none =>
      let accesses := indexAccesses round x.image
      { s with beat := some (if accesses.isEmpty then b.toSource h x [] else { b with accesses := accesses }) }

/-! ### Stages -/

/-- The value an access has read. -/
def Access.value (a : Access) : Nat :=
  match a.state with
  | .got v => v
  | _ => 0

/-- The source element of a lane. -/
def laneValue (accesses : List Access) (lane : Nat) (st : StreamId) : Nat :=
  match accesses.find? fun a => a.lane == lane && a.stream == st with
  | some a => a.value
  | none => 0

/-- Every index entry has been read: the second round, then the source reads (R93 steps 3 and 4). -/
def State.indexDone (s : State) (b : Beat) (h : Channel) (x : Current) : State :=
  let indices := b.accesses.map fun a => (a.lane, a.stream, a.value)
  match roundFailure (secondRound h.compact h.apertures x.image x.beat indices) with
  | some (a, sub, address) => s.raiseBeatFault b.chan (addressFault h x.beat a sub address)
  | none => { s with beat := some (b.toSource h x indices) }

/-- The outcomes of the active lanes (R39, R74). -/
def computeLanes (acw : Word32) (fullMasked : Bool) (x : Current) (accesses : List Access) : List (Nat × LaneOut) :=
  (activeLanes x.image x.beat).map fun j =>
    (j, evalLane (numCtx acw fullMasked) (descLaneJob x.image) (laneValue accesses j .a) (laneValue accesses j .b)
      (laneValue accesses j .c))

/-- The union of the pre-computation conditions: P of R75. -/
def preConditions (outs : List (Nat × LaneOut)) : CondSet := outs.foldl (fun m o => m ||| o.2.pre) 0

/-- The union of the post-computation conditions: Q of R76. -/
def postConditions (outs : List (Nat × LaneOut)) : CondSet := outs.foldl (fun m o => m ||| o.2.post) 0

/-- Conditions are set in the ACW flags and added to the job-local flag set (R75 to R77). -/
def Channel.addFlags (h : Channel) (conds : CondSet) : Channel :=
  { h with acw := acwSetFlags h.acw conds,
           current := h.current.map fun (x : Current) => { x with flags := x.flags ||| conds } }

/-- The Arithmetic fault of an attempt (R75, R76, R97). -/
def arithmeticFault (h : Channel) (beat : Nat) (phase : FaultPhase) (lanes : List Nat) (conds : CondSet) : FaultRec :=
  { h.faultRec .arithmetic .none with phase := phase, beat := beat, lanes := laneSet lanes, conds := conds }

/-- An attempt met an unmasked condition: the channel faults, or substitutes (R75, R76, R107). -/
def State.arithmeticStop (s : State) (b : Beat) (x : Current) (conds : CondSet) (f : FaultRec) : State :=
  let c := b.chan
  let s := s.modCh c fun h => h.addFlags conds
  if descSubstitute x.image then
    let count (y : Current) : Current := { y with faults := y.faults + 1 }
    ((s.modCh c fun h => { h with current := h.current.map count }).post (f.event c true)).startAttempt c true
  else s.raiseBeatFault c f

/-- The destination lanes of a beat. -/
def destLanes (compact : Bool) (x : Current) (indices : List (Nat × StreamId × Nat)) (outs : List (Nat × LaneOut)) :
    List DestLane :=
  outs.map fun o =>
    { lane := o.1, address := elementAddress compact x.image x.beat o.1 indices .d, value := o.2.value : DestLane }

/-- The lines of some destination lanes, each once, in the order of their first lanes (DESIGN CHOICE, log 41). -/
def linesOf (dest : List DestLane) : List Nat :=
  (dest.foldl (fun acc l => if acc.contains (l.address / 64) then acc else l.address / 64 :: acc) []).reverse

/-- Every source element has been read: the checks and the computation (R39, R75, R76). -/
def State.compute (s : State) (b : Beat) (h : Channel) (x : Current) : State :=
  let outs := computeLanes h.acw b.fullMasked x b.accesses
  let p := preConditions outs
  let q := postConditions outs
  let up := if b.fullMasked then 0 else unmasked h.acw p
  let uq := if b.fullMasked then 0 else unmasked h.acw q
  let having (f : LaneOut → CondSet) (u : CondSet) : List Nat := (outs.filter fun o => f o.2 &&& u != 0).map (·.1)
  if up != 0 then s.arithmeticStop b x p (arithmeticFault h x.beat .pre (having (·.pre) up) up)
  else if uq != 0 then s.arithmeticStop b x (p ||| q) (arithmeticFault h x.beat .post (having (·.post) uq) uq)
  else
    let dest := destLanes h.compact x b.indices outs
    let acqs := if streamBypass x.image .d then [] else (linesOf dest).map fun n => { line := n, state := .open_ : Acq }
    { s with beat := some { b with stage := .scatter, dest := dest, conds := p ||| q, acqs := acqs, touched := [] } }

/-- The Memory fault of a failed read (R99): the first failing stream, its failing lanes, the lowest one's address.
Where that lane has failed entries of two Indexed streams, the first in stream order is taken (DESIGN CHOICE, log 44). -/
def readFault (h : Channel) (beat : Nat) (stage : BeatStage) (accesses : List Access) : FaultRec :=
  let failures := accesses.filterMap fun a =>
    match a.state with
    | .failed r => some (a.lane, if stage == .index then StreamId.index else a.stream, a.address, r)
    | _ => none
  let stream := (([.index, .a, .b, .c] : List StreamId).find? fun st => failures.any fun f => f.2.1 == st).getD .none
  let mine := failures.filter fun f => f.2.1 == stream
  let (address, reason) := match lowestLane mine with
    | some f => (f.2.2.1, f.2.2.2)
    | none => (0, .memoryError)
  { h.faultRec .memory (FailReason.sub reason) with
      phase := .access, beat := beat, lanes := laneSet (mine.map (·.1)), stream := stream,
      address := BitVec.ofNat 64 address }

/-- The Memory fault of a failed acquisition (R99): stream D, every lane of the failed lines. -/
def acquireFault (h : Channel) (beat : Nat) (b : Beat) : FaultRec :=
  let failures := b.dest.filterMap fun l =>
    (b.acqs.find? fun q => q.line == l.address / 64).bind fun q =>
      match q.state with
      | .failed r => some (l.lane, l.address, r)
      | _ => none
  let (address, reason) := match lowestLane failures with
    | some f => f.2
    | none => (0, .memoryError)
  { h.faultRec .memory (FailReason.sub reason) with
      phase := .access, beat := beat, lanes := laneSet (failures.map (·.1)), stream := .d,
      address := BitVec.ofNat 64 address }

/-- A request of the beat failed: no further request is issued, and the fault is raised once the others have ended
(R99). -/
def State.failStage (s : State) (c : Chan) (f : FaultRec) : Option State :=
  let mine (r : Req) : Bool := r.isOf c && r.isBeatRead
  if s.link.waiting.any mine then some (s.withdraw mine)
  else if s.link.outstanding.any mine then none
  else some (s.raiseBeatFault c f)

/-- Whether a read has failed. -/
def Access.hasFailed (a : Access) : Bool :=
  match a.state with
  | .failed _ => true
  | _ => false

/-- Whether a read has returned. -/
def Access.hasValue (a : Access) : Bool :=
  match a.state with
  | .got _ => true
  | _ => false

/-- Whether an acquisition has failed. -/
def Acq.hasFailed (q : Acq) : Bool :=
  match q.state with
  | .failed _ => true
  | _ => false

/-! ### Commit -/

/-- A destination lane written by the bypass path: of a bypass stream, or by the fallback of R141. -/
def Beat.laneBypasses (b : Beat) (x : Current) (l : DestLane) : Bool :=
  streamBypass x.image .d || b.acqs.any fun q => q.line == l.address / 64 && q.state == .fallback

/-- The bypass destination lanes of a beat. -/
def Beat.bypassLanes (b : Beat) (x : Current) : List DestLane := b.dest.filter (b.laneBypasses x)

/-- The beat may commit now (R141, R142): every line is held, and every bypass line is quiet, with room for the Dirty
ones. -/
def State.commitReady (s : State) (b : Beat) (x : Current) : Bool :=
  let lines := linesOf (b.bypassLanes x)
  (b.acqs.all fun q => q.state == .fallback || s.cache.holds q.line) &&
    (lines.all fun n =>
      match s.cache.line n with
      | some l => !l.busy
      | none => true) &&
    s.cache.room (lines.filter fun n => s.cache.lineState n == .dirty).length

/-- A cached destination lane is written into its line (R141). -/
def State.writeCached (s : State) (size : Nat) (l : DestLane) : State :=
  let n := l.address / 64
  let s := s.modCache fun k => k.modLine n fun x =>
    { x with state := .dirty, bytes := putBytes x.bytes (l.address % 64) size l.value }
  match s.cache.findWay n with
  | some w => s.touchOnce (lineSet n) w
  | none => s

/-- A line that a bypass destination write names leaves the cache (R142). -/
def State.clearBypassLine (s : State) (n : Nat) : State :=
  match s.cache.line n with
  | some l =>
    if l.state == .dirty then (s.modCache fun k => k.modLine n CacheLine.drop).evictLine n l.bytes none
    else s.dropClean n
  | none => s

/-- The WritePartial of one line of a beat's bypass destination (R142): the higher lane's bytes win (R40). -/
def bypassWrite (c : Chan) (beat size n : Nat) (lanes : List DestLane) : Req :=
  let mine := lanes.filter fun l => l.address / 64 == n
  let bytes := mine.foldl (fun (d : Line) l => putBytes d (l.address % 64) size l.value) 0
  let mask := mine.foldl (fun (m : BitVec 64) l => m ||| byteMask (l.address % 64) size) 0
  Req.write (n * 64) mask bytes (.channel c) (.bypass beat (mine.map fun l => (l.lane, l.address)))

/-- The channel's part of a commit (R77). -/
def Channel.committed (h : Channel) (conds : CondSet) : Channel :=
  let h := h.addFlags conds
  { h with
    current := h.current.map fun (x : Current) => { x with beat := x.beat + 1, committed := x.committed + 1 }
    phase := match h.current with
      | some x => if x.beat + 1 < descBeats x.image then .job else .ending
      | none => h.phase
    owedAttempt := .none, progressOwed := false }

/-- The beat commits (R1, R77, R141, R142).  Its Dirty lines move to the eviction buffer, and its WritePartials become
ready, in the order of `linesOf` (DESIGN CHOICE, log 41). -/
def State.commit (s : State) (b : Beat) (x : Current) : State :=
  let c := b.chan
  let size := streamSize x.image .d
  let bypass := b.bypassLanes x
  let s := s.modBeat fun b => { b with touched := [] }
  let s := (b.dest.filter fun l => !b.laneBypasses x l).foldl (fun s l => s.writeCached size l) s
  let s := { s.releasePins b with beat := none }
  let s := (linesOf bypass).foldl State.clearBypassLine s
  let s := (linesOf bypass).foldl (fun s n => s.ask (bypassWrite c x.beat size n bypass)) s
  s.modCh c fun h => h.committed b.conds

/-- The next thing the granted beat does; none while it waits. -/
def State.beatStep (s : State) : Option State :=
  match s.beat with
  | none => none
  | some b =>
    let h := s.ch b.chan
    match h.current with
    | none => none
    | some x =>
      match b.stage with
      | .index | .source =>
        if b.accesses.any Access.hasFailed then s.failStage b.chan (readFault h x.beat b.stage b.accesses)
        else if b.accesses.all Access.hasValue then
          some (if b.stage == .index then s.indexDone b h x else s.compute b h x)
        else s.readPass b.chan
      | .scatter =>
        if b.acqs.any Acq.hasFailed then s.failStage b.chan (acquireFault h x.beat b)
        else
          match s.acquirePass b.chan with
          | some s => some s
          | none => if s.commitReady b x then some (s.commit b x) else none

/-- The arbiter decides, and the granted beat begins (R32, R33; log 7). -/
def State.grantBeat (s : State) : State :=
  if s.beat.isSome then s
  else
    match s.arbiterChoice with
    | none => s
    | some (c, s) => s.startAttempt c ((s.ch c).owedAttempt == .fullMasked)

end Sys2Proof.Machine
end

