-- ==== Sys2Proof/Machine/Settle.lean ====
section
/-! DEFINITION. What the part does of its own accord after a command, to the point where it waits for the next one: the
channels, the beat, the link, the sweeps and the power controller (R1, R144 to R146, R155, R161, R164, R167, R172;
log 6). -/
namespace Sys2Proof.Machine

/-! ### Sweeps -/

/-- A sweep request leaves the queue and its sweep begins (R144, R145, R146). -/
def State.startSweep (s : State) : Option State :=
  match s.cache.sweep, s.cache.queue with
  | none, r :: rest =>
    let kind := r.kind
    let n := s.cache.nextSweep
    let s := s.modCache fun k =>
      { k with sweep := some { number := n, kind := kind, next := 0 }, queue := rest, nextSweep := n + 1,
               commandSweeps := if kind == .command then k.commandSweeps ++ [n] else k.commandSweeps }
    match kind with
    | .flush c =>
      some (s.modCh c fun h => if h.phase == .flushing none then { h with phase := .flushing (some n) } else h)
    | .command | .dormantEntry => some s
  | _, _ => none

/-- A Flush and Invalidate sweep and its write-backs have ended: flush done is set (R146). -/
def State.endCommandSweep (s : State) : Option State :=
  match s.cache.commandSweeps.find? s.cache.sweepOver with
  | some n =>
    some (s.modCache fun k => { k with commandSweeps := k.commandSweeps.filter (· != n), flushDone := true })
  | none => none

/-- What a sweep does to one line of a way (R145, R146, R167). -/
def State.sweepLine (s : State) (sweep : Sweep) (i : SetId) (w : WayId) (upper : Bool) : State :=
  let y := (s.cache.set i).way w
  let l := y.line upper
  let put (s : State) (l : CacheLine) : State := s.modCache fun k =>
    k.putSet i ((k.set i).putWay w (((k.set i).way w).setLine upper l))
  match sweep.kind with
  | .flush _ =>
    if l.state == .dirty then
      (put s { l with state := .exclusive }).evictLine (wayLine i y.tag upper) l.bytes (some sweep.number)
    else s
  | .command | .dormantEntry =>
    if l.busy then s
    else if l.state == .dirty then (put s l.drop).evictLine (wayLine i y.tag upper) l.bytes (some sweep.number)
    else if l.state == .invalid then s
    else put s l.drop

/-- The Dirty lines of a set. -/
def CacheSet.dirtyLines (x : CacheSet) : Nat := allWays.foldl (fun n w => n + (x.way w).dirtyLines) 0

/-- The sweep processes its next set, once there is room for the set's Dirty lines (R145; log 32). -/
def State.sweepNext (s : State) : State :=
  match s.cache.sweep with
  | none => s
  | some sweep =>
    let i := setOf sweep.next
    if !s.cache.room (s.cache.set i).dirtyLines then s
    else
      let s := allWays.foldl (fun s w => (s.sweepLine sweep i w false).sweepLine sweep i w true) s
      s.modCache fun k =>
        { k with sweep := if sweep.next + 1 < 128 then some { sweep with next := sweep.next + 1 } else none }

/-! ### The power controller -/

/-- Every channel is held or has nothing to hold (R164). -/
def Channel.quiet (h : Channel) : Bool :=
  match h.state with
  | .disabled | .idle | .parked | .faulted | .error => true
  | .saving | .restoring => false
  | .running | .waiting | .draining | .expediting => h.held

/-- The conditions of R164. -/
def State.isStill (s : State) : Bool :=
  (allChans.all fun c => !(s.ch c).progressOwed && (s.ch c).quiet) && s.beat.isNone && s.link.still &&
    s.cache.evict.isEmpty && s.cache.sweep.isNone && s.cache.queue.isEmpty

/-- Set the power state. -/
def State.setPower (s : State) (p : PowerState) : State := { s with device := { s.device with power := p } }

/-- Set how far the Dormant-Entry is. -/
def State.setDormantStep (s : State) (x : DormantStep) : State := { s with device := { s.device with dormantStep := x } }

/-- An acknowledgement of the power controller (Table 7-3). -/
def State.ack (s : State) (kind : EventKind) : State := s.post (Event.simple kind none 0 0)

/-- Events or a loss mark stand in the FIFO, or events of this place will (R131, R132, R167). -/
def State.eventsLeft (s : State) : Bool :=
  !s.engine.fifo.isEmpty || s.engine.lossMark.isSome || (s.engine.size != 0 && s.place.any PlaceItem.isEvent)

/-- The next step of a Dormant-Entry (R167; log 25, log 26).  The return to Quiesced of a device that has become Fatal also
waits for the eviction buffer to empty (DESIGN CHOICE, log 58). -/
def State.dormantNext (s : State) : Option State :=
  match s.device.dormantStep with
  | .none => none
  | .waiting =>
    if s.cache.sweep.isNone && s.cache.queue.isEmpty then
      let n := s.cache.nextSweep
      let s := s.modCache fun k =>
        { k with sweep := some { number := n, kind := .dormantEntry, next := 0 }, nextSweep := n + 1 }
      some (s.setDormantStep (.sweeping n))
    else none
  | .sweeping n =>
    if s.cache.sweepOver n && s.cache.evict.isEmpty then
      if s.engine.fatal then some ((s.setPower .quiesced).setDormantStep .none)
      else some ((s.setDormantStep .acknowledged).ack .dormantAck)
    else none
  | .acknowledged =>
    if s.engine.fatal then some ((s.setPower .quiesced).setDormantStep .none)
    else if !s.eventsLeft && !s.eventOutstanding then
      some ((s.setPower .dormant).setDormantStep .none)
    else none

/-- A Soft Init completes (R172). -/
def State.softInitDone (s : State) : Option State :=
  if s.device.softInit && s.link.still && s.cache.sweep.isNone && s.cache.evict.isEmpty then
    some (({ s with device := { s.device with softInit := false } }).forChans fun c s =>
      s.modCh c fun h => { h with resetDraining := false })
  else none

/-- Quiescing ends (R164). -/
def State.quiescingDone (s : State) : Option State :=
  if s.device.power == .quiescing && s.isStill then some ((s.setPower .quiesced).ack .quiesceAck) else none

/-- The first of some steps that can be taken. -/
def firstStep (s : State) : List (State → Option State) → Option State
  | [] => none
  | f :: fs =>
    match f s with
    | some s => some s
    | none => firstStep s fs

/-- One thing the part does of its own accord; none when it waits (log 6). -/
def State.progress (s : State) : Option State :=
  firstStep s [(·.chanStep 0), (·.chanStep 1), (·.chanStep 2), (·.chanStep 3), State.beatStep, State.serve,
    State.endCommandSweep, State.startSweep, State.softInitDone, State.quiescingDone, State.dormantNext]

/-- Go on until the part waits, at most `fuel` actions (log 6). -/
def settleLoop : Nat → State → State
  | 0, s => s
  | n + 1, s =>
    match s.progress with
    | some s => settleLoop n s
    | none => s

/-- Go on until the part waits. -/
def State.settle (s : State) : State := settleLoop Config.settleFuel s

/-! ### The end of a command, and the tick -/

/-- The Doze condition (R161). -/
def State.dozeCondition (s : State) : Bool :=
  s.device.power == .active && !s.device.quiesce &&
    (allChans.all fun c =>
      let h := s.ch c
      (h.state == .disabled || h.state == .idle || h.state == .parked || h.state == .faulted || h.state == .error) &&
        !h.resetDraining) &&
    s.link.still && s.cache.evict.isEmpty && s.cache.sweep.isNone && s.cache.queue.isEmpty &&
    s.engine.fifo.isEmpty && s.engine.lossMark.isNone

/-- A command begins at a place of its own in the total order, with no message sent. -/
def State.begin (s : State) : State := { s with sent := [], place := [] }

/-- The waiting requests and the queued sweeps belong to an earlier place in the total order from now on (R144, R155). -/
def State.age (s : State) : State :=
  { s with
    cache := { s.cache with queue := s.cache.queue.map fun q => { q with fresh := false } }
    link := { s.link with waiting := s.link.waiting.map fun r => { r with fresh := false } } }

/-- The Doze timer is 0 while the condition fails (R161). -/
def State.checkDoze (s : State) : State :=
  if s.dozeCondition then s else { s with device := { s.device with dozeTimer := 0 } }

/-- The end of every command: the numbers and the events of its place (R128, R131), the interrupt level (R134), the
order of waiting requests, the Doze timer. -/
def State.close (s : State) : State := s.numberPlace.evalInterrupt.age.checkDoze

/-- The end of a command after which the part may act of its own accord. -/
def State.settleClose (s : State) : State := s.settle.close

/-- One timebase tick of an outstanding request (R157): its expiry becomes a waiting command when the count reaches its
timeout (log 1, log 2). -/
def State.tickTag (s : State) (t : TagId) : State :=
  let x := s.link.tag t
  match x.record with
  | some r =>
    if r.timeout != 0 && r.count < r.timeout then
      let s := { s with link := s.link.putTag t { x with record := some { r with count := r.count + 1 } } }
      if r.count + 1 == r.timeout then { s with pending := s.pending ++ [.responseTimeout t] } else s
    else s
  | none => s

/-- One timebase tick of the Doze timer (R161; log 1, log 2). -/
def State.tickDoze (s : State) : State :=
  let d := s.device
  if s.dozeCondition && d.dozeDelay != 0 && d.dozeTimer < d.dozeDelay then
    let s := { s with device := { d with dozeTimer := d.dozeTimer + 1 } }
    if d.dozeTimer + 1 == d.dozeDelay then { s with pending := s.pending ++ [.doze] } else s
  else s

/-- One tick of the 1 µs timebase, with no command waiting (R4; log 1).  Timeouts that end on one tick expire in
ascending order of tag, which the spec leaves open (DESIGN CHOICE, log 2). -/
def State.tick (s : State) : State := ((allTags.foldl State.tickTag s.begin).tickDoze).settleClose

end Sys2Proof.Machine
end

