-- ==== Sys2Proof/Machine/Resets.lean ====
section
/-! DEFINITION. Power-on reset, Device Reset and Soft Init, and the power requests of Device Control (R160, R163 to R172,
R174). -/
namespace Sys2Proof.Machine

/-- A power-on reset (R170): every item at the value of Table 11-1. -/
def State.powerOn (s : State) : State := { State.reset with pending := s.pending }

/-- A Device Reset ends an outstanding request as if its timeout had expired, with no outcome (R159). -/
def Tag.abandon (x : Tag) : Tag := if x.state == .outstanding then x.expire else x

/-- The link interface after a Device Reset (R159). -/
def Link.deviceReset (l : Link) : Link :=
  { Link.reset with tags := (allTags.foldl (fun l t => l.putTag t (l.tag t).abandon) l).tags }

/-- A Device Reset (R170).  The interrupt level the host was last told of stays until it is evaluated again (R134). -/
def State.deviceReset (s : State) : State :=
  { State.reset with
    device := { Device.reset with cause := .deviceReset }, link := s.link.deviceReset,
    engine := { Engine.reset with asserted := s.engine.asserted }, sent := s.sent, pending := s.pending }

/-- A waiting record write gets its record as a Soft Init is accepted, for the descriptor or the FIFO item it would
carry ends there (R171, R172; log 13). -/
def State.sealRecord (s : State) (r : Req) : Req :=
  match r.purpose, r.owner with
  | .record _, .channel c => if r.orphan then r else (s.ch c).withRecord c r
  | .event _, _ =>
    match s.engine.fifo, s.engine.lossMark with
    | v :: _, _ => { r with bytes := placeRecord r v.bytes }
    | [], some n => { r with bytes := placeRecord r (eventsLost n s.engine.sequence).bytes }
    | [], none => r
  | _, _ => r

/-- A channel after the acceptance of a Soft Init (R171, Table 11-1). -/
def Channel.softInit (h : Channel) : Channel :=
  { h.afterReset with heldQuiesce := false, heldFatal := false, acw := h.acw, resetDraining := true }

/-- The power controller after the acceptance of a Soft Init (R160, R171, R174). -/
def Device.softInitAccepted (d : Device) : Device :=
  { Device.reset with
    irqEnable := d.irqEnable, dozeDelay := d.dozeDelay, softInit := true, cause := .softInit }

/-- The event engine after the acceptance of a Soft Init (R135, R171). -/
def Engine.softInit (e : Engine) : Engine :=
  { Engine.reset with base := e.base, size := e.size, asserted := e.asserted }

/-- Step 2 of R171 alone, which is all that a further Soft Init does while one drains (R160, R172). -/
def State.softInitAgain (s : State) : State :=
  let d := s.device
  ({ s with device := { d with power := .active, quiesce := false, dozeTimer := 0, dormantStep := .none } }).forChans
    fun c s => s.modCh c fun h => { h with heldQuiesce := false, progressOwed := false, deferred := [] }

/-- A request that waits at a Soft Init is issued and drained (R159, R172), but for a write of the context save block: its
save ends at the acceptance, and the channel issues no further write (R113, R170, R171). -/
def Req.keptBySoftInit (r : Req) : Bool := r.purpose != .csbSave

/-- The acceptance of a Soft Init (R171).  A request that is kept has no outcome for its channel (R172). -/
def State.softInit (s : State) : State :=
  if s.device.softInit then s.softInitAgain
  else
    let s := allChans.foldl State.releaseGrant s
    let s := { s with link := { s.link with waiting := (s.link.waiting.filter Req.keptBySoftInit).map s.sealRecord } }
    let isChannels (r : Req) : Bool := match r.owner with
      | .channel _ => !r.isPrefetch
      | .engine => true
      | .cache => false
    let s := s.orphan isChannels
    let s := s.forChans fun c s => s.modCh c Channel.softInit
    { s with
      device := s.device.softInitAccepted, normalPtr := 3, expeditePtr := 3, engine := s.engine.softInit
      cache := { s.cache with queue := [], flushDone := false, lostWriteBacks := 0, prefetchFails := 0 } }

/-! ### Channel commands at the moment they are judged -/

/-- The resume commands a fault kind admits (Table 5-2). -/
def resumeAdmits (kind : FaultKind) (cmd : ChanCmd) : Bool :=
  match cmd with
  | .resumeRetry | .resumeAbandon => true
  | .resumeSkip => kind == .arithmetic || kind == .address || kind == .memory
  | .resumeSubstitute => kind == .arithmetic
  | .enable | .disable | .reset | .park | .unpark => false

/-- The current beat is given up (R104). -/
def Channel.skipBeat (h : Channel) : Channel :=
  match h.current with
  | some x =>
    { h with current := some { x with beat := x.beat + 1, skipped := x.skipped + 1 },
             phase := if x.beat + 1 < descBeats x.image then .job else .ending }
  | none => h

/-- The action of Resume-Retry (R103). -/
def State.retry (s : State) (c : Chan) (f : FaultRec) : State :=
  if f.kind.ofBeat then s.modCh c fun h => { h with owedAttempt := .ordinary }
  else s.startFetch c f.ring f.location

/-- The action of Resume-Abandon (R106). -/
def State.abandon (s : State) (c : Chan) (f : FaultRec) : State :=
  if f.kind.ofBeat || f.kind == .control then s.complete c .abandoned else s.modCh c Channel.finish

/-- An expedite doorbell latched in Faulted, or while held, claims an automatic park (R120, R124, R164). -/
def Channel.claimLatched (h : Channel) : Channel :=
  if (h.state == .running || h.state == .waiting) && h.claim.isNone && h.expediteLatched && h.csbAddress != 0 then
    { h with claim := some .automatic }
  else h

/-- The channel returns to its resume state (R102). -/
def Channel.resumed (h : Channel) : Channel :=
  { h with state := if h.resumeExpedite then .expediting else .running, fault := { h.fault with valid := false } }

/-- An accepted Resume command (R102 to R106). -/
def State.resume (s : State) (c : Chan) (cmd : ChanCmd) : State :=
  let f := (s.ch c).fault
  let s := s.modCh c Channel.resumed
  match cmd with
  | .resumeRetry => s.retry c f
  | .resumeSkip => s.modCh c Channel.skipBeat
  | .resumeSubstitute => s.modCh c fun h => { h with owedAttempt := .fullMasked }
  | .resumeAbandon => s.abandon c f
  | .enable | .disable | .reset | .park | .unpark => s

/-- The reason a command's own rule rejects it, or none (R28, R29, R102, R114, R117). -/
def Channel.refusal (h : Channel) (cmd : ChanCmd) : Option Reason :=
  match cmd with
  | .reset => none
  | .enable =>
    if h.state != .disabled then some .alreadyEnabled
    else if h.resetDraining then some .resetInProgress
    else if h.normal.size = 0 then some .ringNotConfigured
    else none
  | .disable =>
    match h.state with
    | .disabled | .idle | .waiting | .draining => none
    | .running => if h.claim.isSome then some .parkPending else none
    | .faulted | .saving | .parked | .expediting | .restoring => some .disableWrongState
    | .error => some .channelInError
  | .park =>
    let accepted : Option Reason := if h.csbAddress == 0 then some .noCsb else none
    match h.state with
    | .disabled | .draining | .faulted => some .parkWrongState
    | .parked => some .alreadyParked
    | .expediting => if h.expFrom == some .parked then some .alreadyParked else accepted
    | .idle | .running | .waiting | .saving | .restoring => accepted
    | .error => some .channelInError
  | .unpark => if h.state == .parked then none else some .unparkWrongState
  | .resumeRetry | .resumeSkip | .resumeSubstitute | .resumeAbandon =>
    if h.state != .faulted then some .notFaulted
    else if resumeAdmits h.fault.kind cmd then none
    else some .resumeNotAllowed

/-- The effect of an accepted Park (R114). -/
def State.acceptPark (s : State) (c : Chan) : State :=
  let h := s.ch c
  match h.state with
  | .idle | .waiting => s.beginSave c .explicit
  | .running =>
    match h.claim with
    | none => s.setCh c { h with claim := some .explicit }
    | some .explicit => s
    | some .automatic => s.setCh c { h with pendingPark := true }
  | .saving | .restoring | .expediting => s.setCh c { h with pendingPark := true }
  | .disabled | .draining | .faulted | .parked | .error => s

/-- The effect of an accepted Disable (R29).  In Draining and Disabled an expedite doorbell is latched only (R120), so the
automatic park that a restore's end claimed goes; an explicit park claimed there stays (DESIGN CHOICE, log 43). -/
def Channel.disabled (h : Channel) : Channel :=
  let claim := if h.claim == some .automatic then none else h.claim
  match h.state with
  | .idle => { h with state := .disabled, claim := claim }
  | .running | .waiting => { h with state := .draining, claim := claim }
  | _ => h

/-- The effect of an accepted command. -/
def State.accept (s : State) (c : Chan) (cmd : ChanCmd) : State :=
  let s := s.modCh c fun h => { h with reason := .none }
  match cmd with
  | .enable => s.modCh c fun h => { h with state := .idle }
  | .disable => s.modCh c Channel.disabled
  | .reset => s.channelReset c
  | .park => s.acceptPark c
  | .unpark => s.beginRestore c true
  | .resumeRetry | .resumeSkip | .resumeSubstitute | .resumeAbandon => s.resume c cmd

/-- A command is judged against the channel's state (R27, R133). -/
def State.judge (s : State) (c : Chan) (cmd : ChanCmd) : State :=
  if cmd == .reset then s.accept c cmd
  else if s.engine.fatal then s.reject c .deviceFatal
  else if (s.ch c).state == .error then s.reject c .channelInError
  else
    match (s.ch c).refusal cmd with
    | some r => s.reject c r
    | none => s.accept c cmd

/-- A command is judged as it is written.  The park of an expedite doorbell latched in Faulted counts as claimed from
the Resume that leaves Faulted, so that a Disable before the first beat boundary is rejected (R124; DESIGN CHOICE,
log 42).  Commands judged at a release have their doorbells acted on after all of them (R164; log 35). -/
def State.judgeNow (s : State) (c : Chan) (cmd : ChanCmd) : State :=
  let t := s.judge c cmd
  if (s.ch c).state == .faulted then t.modCh c Channel.claimLatched else t

/-- The power states in which a command is deferred (R163). -/
def PowerState.defers : PowerState → Bool
  | .quiescing | .quiesced | .dormantEntry => true
  | .active | .doze | .dormant | .waking => false

/-- A command written to Channel Command (R27, R133, R163). -/
def State.command (s : State) (c : Chan) (cmd : ChanCmd) : State :=
  if cmd == .reset || s.engine.fatal || !s.device.power.defers then s.judgeNow c cmd
  else if (s.ch c).deferred.length < Config.deferredCommands then
    s.modCh c fun h => { h with deferred := h.deferred ++ [cmd] }
  else s.reject c .deferredFull

/-! ### Device Control -/

/-- A channel that the release owes progress (R165). -/
def Channel.owed (h : Channel) : Bool :=
  h.heldQuiesce && (h.state == .running || h.state == .draining || h.state == .expediting) &&
    match h.current with
    | some x => (h.phase == .job || h.phase == .ready) && x.isOperation && x.beat < descBeats x.image
    | none => false

/-- A channel whose quiesce hold ends (R164 steps 2 to 4): its deferred commands are taken to be judged. -/
def Channel.released (h : Channel) : Channel :=
  { h with progressOwed := h.progressOwed || h.owed, heldQuiesce := false, deferred := [] }

/-- The release of a quiesce (R164).  A channel that a deferred Enable brings to Idle evaluates its work only after all
deferred commands, so a later command of its list is judged in Idle (DESIGN CHOICE, log 62). -/
def State.release (s : State) : State :=
  let d := s.device
  let s := { s with device := { d with power := .active, quiesce := false } }
  let lists (c : Chan) : List ChanCmd := (s.ch c).deferred
  let s := s.forChans fun c s => s.modCh c Channel.released
  let s := s.forChans fun c s => (lists c).foldl (fun s cmd => s.judge c cmd) s
  s.forChans fun c s => s.modCh c Channel.claimLatched

/-- Bits of a Device Control write (R176). -/
def dcQuiesce (w : Word32) : Bool := w[0]
/-- Interrupt Enable. -/
def dcIrqEnable (w : Word32) : Bool := w[1]
/-- Dormant. -/
def dcDormant (w : Word32) : Bool := w[4]
/-- Wake. -/
def dcWake (w : Word32) : Bool := w[5]
/-- Soft Init. -/
def dcSoftInit (w : Word32) : Bool := w[6]
/-- Device Reset. -/
def dcDeviceReset (w : Word32) : Bool := w[7]

/-- A Device Control write without Device Reset is accepted (R160, R169). -/
def State.controlAccepted (s : State) (w : Word32) : Bool :=
  let p := s.device.power
  let actions := (dcDormant w).toNat + (dcWake w).toNat + (dcSoftInit w).toNat
  if 1 < actions then false
  else if dcSoftInit w then p != .dormant && p != .waking
  else
    let changes := dcQuiesce w != s.device.quiesce
    if changes && actions != 0 then false
    else if dcDormant w then p == .quiesced && !s.engine.fatal
    else if dcWake w then p == .dormant
    else if changes then (if dcQuiesce w then p == .active else p == .quiescing || p == .quiesced)
    else true

/-- The effect of an accepted Device Control write without Device Reset (R160). -/
def State.controlEffect (s : State) (w : Word32) : State :=
  if dcSoftInit w then s.softInit
  else
    let changes := dcQuiesce w != s.device.quiesce
    let d := s.device
    let s := { s with device := { d with irqEnable := dcIrqEnable w } }
    if dcDormant w then (s.setPower .dormantEntry).setDormantStep .waiting
    else if dcWake w then s.setPower .waking
    else if changes then
      if dcQuiesce w then ({ s with device := { s.device with quiesce := true } }).setPower .quiescing else s.release
    else s

/-- A write to Device Control (R160, R169). -/
def State.deviceControl (s : State) (w : Word32) : State :=
  if dcDeviceReset w then s.deviceReset
  else if s.controlAccepted w then s.controlEffect w
  else { s with device := { s.device with powerRejected := true } }

end Sys2Proof.Machine
end

