-- ==== Sys2Proof/Machine/Responses.lean ====
section
/-! DEFINITION. Responses, failures and expiry: what the end of a request does for its owner (R101, R133, R138 to R143,
R149, R151, R156, R157). -/
namespace Sys2Proof.Machine

/-- A response that Table 9-1 lists for a request kind (R151). -/
def ReqKind.accepts (k : ReqKind) (resp : Response) : Bool :=
  match k, resp with
  | _, .fail _ => true
  | .fetchShared, .data _ _ | .readDirect, .data _ _ => true
  | .fetchOwned, .data g _ | .upgrade, .data g _ => g == .exclusive
  | .upgrade, .done | .writeLine, .done | .writePartial, .done => true
  | _, _ => false

/-- A response that is not listed counts as a Fail with reason DecodeError (R151). -/
def Response.heard (resp : Response) (k : ReqKind) : Response := if k.accepts resp then resp else .fail .decodeError

/-- The Done of an event record write (R129, R130). -/
def Engine.recordWritten (e : Engine) : Engine :=
  { e with tail := if e.size = 0 then e.tail else (e.tail + 1) % e.size }

/-- The accepted Done of a write (R17, R126, R130). -/
def State.writeDone (s : State) (r : Req) : State :=
  match r.purpose with
  | .record (some v) => if r.orphan then s else s.postNumbered v
  | .event true => if r.orphan then s else { s with engine := s.engine.recordWritten }
  | _ => s

/-- An accepted Data or Done (Table 9-1). -/
def State.answered (s : State) (r : Req) (resp : Response) : State :=
  match r.kind, resp with
  | .fetchShared, .data g bytes => s.fillData r (Grant.lineState g) bytes
  | .fetchOwned, .data _ bytes => s.fillData r .exclusive bytes
  | .upgrade, .data _ bytes => s.upgradeData (r.address / 64) bytes
  | .upgrade, .done => s.upgradeDone (r.address / 64)
  | .readDirect, .data _ bytes => s.deliverRead r bytes
  | .writeLine, _ => s.leaveEviction (r.address / 64)
  | .writePartial, _ => s.writeDone r
  | _, _ => s

/-- A lost write-back (R143). -/
def State.lostWriteBack (s : State) (r : Req) : State :=
  let n := r.address / 64
  let s := s.modCache fun k =>
    { k.modLine n CacheLine.drop with lostWriteBacks := satSucc k.lostWriteBacks }
  (s.leaveEviction n).post (Event.simple .deviceError none 1 (BitVec.ofNat 64 r.address))

/-- A sibling prefetch failed (R140): counted and nothing more; a read that waited on it asks again (R149). -/
def State.prefetchFailed (s : State) (r : Req) (reason : FailReason) : State :=
  (s.lineFail r reason).modCache fun k => { k with prefetchFails := satSucc k.prefetchFails }

/-- A bypass destination write failed (R100): the channel stops at once. -/
def State.bypassFailed (s : State) (c : Chan) (beat : Nat) (lanes : List (Nat × Nat)) (reason : FailReason) : State :=
  let note (x : Current) : Current := { x with fails := x.fails ++ [{ beat := beat, lanes := lanes, reason := reason }] }
  (s.discardBeat c).modCh c fun h => { h with current := h.current.map note }

/-- The device enters Fatal (R133, R165). -/
def State.enterFatal (s : State) : State :=
  ({ s with engine := { s.engine with fatal := true } }).forChans fun c s =>
    s.modCh c fun h => { h with progressOwed := false }

/-- A bypass read failed: an element, a descriptor half or a read of the block (R12, R99, R109). -/
def State.readFailed (s : State) (r : Req) (reason : FailReason) : State :=
  if r.orphan then s
  else
    match r.purpose, r.owner with
    | .read stream _, _ =>
      let fail (a : Access) : Access :=
        if a.state == .onDirect && a.stream == stream && a.address / 64 == r.address / 64 then
          { a with state := .failed reason }
        else a
      s.modBeat fun b => { b with accesses := b.accesses.map fail }
    | .descriptor upper, .channel c =>
      s.modCh c fun h =>
        match h.phase with
        | .fetching lo hi =>
          { h with phase := if upper then .fetching lo (.failed reason) else .fetching (.failed reason) hi }
        | _ => h
    | .csbRead _, .channel c =>
      s.enterError c .csbReadFailed .unparkFailed (((s.ch c).restore.map (·.address)).getD 0)
    | _, _ => s

/-- A write of the part failed (R100, R101, R109, R133). -/
def State.writeFailed (s : State) (r : Req) (reason : FailReason) : State :=
  if r.orphan then s
  else
    match r.purpose, r.owner with
    | .bypass beat lanes, .channel c => s.bypassFailed c beat lanes reason
    | .record _, .channel c =>
      s.enterError c .completionWriteFailed .channelError (BitVec.ofNat 64 r.firstByte)
    | .csbSave, .channel c => s.enterError c .csbWriteFailed .channelError (BitVec.ofNat 64 r.firstByte)
    | .event _, _ => s.enterFatal
    | _, _ => s

/-- A request failed, by a Fail or by its timeout (R101). -/
def State.failed (s : State) (r : Req) (reason : FailReason) : State :=
  match r.kind with
  | .fetchShared | .fetchOwned | .upgrade =>
    if r.isPrefetch then s.prefetchFailed r reason else s.lineFail r reason
  | .writeLine => s.lostWriteBack r
  | .readDirect => s.readFailed r reason
  | .writePartial => s.writeFailed r reason

/-- The end of a request for its owner. -/
def State.outcome (s : State) (r : Req) (resp : Response) : State :=
  match Response.heard resp r.kind with
  | .fail reason => s.failed r reason
  | resp => s.answered r resp

/-- A response arrives (R151, R156, R157): matched, it ends its request; otherwise it is late. -/
def State.receive (s : State) (t : TagId) (gen : Bool) (resp : Response) : State :=
  match s.link.matched t gen with
  | some r => (s.freeOutstanding t).outcome r resp
  | none => s.late t gen

/-- A request's timeout expires (R156, R157). -/
def State.expire (s : State) (t : TagId) : State :=
  let x := s.link.tag t
  match x.state, x.record with
  | .outstanding, some r =>
    if r.timeout == 0 then s
    else ({ s with link := s.link.putTag t x.expire }).failed r.req .timeout
  | _, _ => s

/-- The answer to a probe, and the line after it (R147). -/
def State.probe (s : State) (address : Word64) (invalidate : Bool) : State :=
  let n := address.toNat / 64
  let after (l : CacheLine) : CacheLine :=
    if l.state == .invalid then l else if invalidate then l.drop else { l with state := .shared }
  let change (s : State) : State := s.modCache fun k => k.modLine n after
  if s.device.power == .dormant || s.device.power == .waking then s.send (.probeResp .miss)
  else if s.cache.evicting n then (change s).send (.probeResp .inTransit)
  else
    match s.cache.line n with
    | none => s.send (.probeResp .miss)
    | some l =>
      if l.fill then s.send (.probeResp .miss)
      else
        match l.state with
        | .invalid => s.send (.probeResp .miss)
        | .shared | .exclusive => (change s).send (.probeResp .hitClean)
        | .dirty => (change s).send (.probeResp (.hitDirty l.bytes))

/-- The event engine's next record write becomes ready (R130); no effect where R130 does not allow one (log 7).  The
address of the entry is taken modulo 2^64 (DESIGN CHOICE, log 56). -/
def State.writeEvent (s : State) : State :=
  let e := s.engine
  let something := !e.fifo.isEmpty || e.lossMark.isSome
  let slot := e.size != 0 && (e.tail + 1) % e.size != e.head
  if something && slot && !e.fatal && !s.eventOutstanding && !s.device.softInit then
    let address := (e.base.toNat + 32 * e.tail) % 2 ^ 64
    s.ask (Req.write address (byteMask (address % 64) 32) 0 .engine (.event true))
  else s

end Sys2Proof.Machine
end

