-- ==== Sys2Proof/Machine/Registers.lean ====
section
/-! DEFINITION. The register window: where each register lies (R175, R176, R178), what it reads, and what a write to it
does (R7, R8, R61, R88, R90, R110, R120, R129 to R131, R140, R143, R146, R157, R158, R161, R176 to R180). -/
namespace Sys2Proof.Machine

/-- The registers of a channel block (Table 12-2).  `aperture` words are the rows from 80H. -/
inductive ChanReg where
  | control | command | status | acw
  | ringBase (half : Half) | ringSize | ringProducer | ringConsumer
  | expediteBase (half : Half) | expediteSize | expediteProducer | expediteConsumer
  | csbAddress (half : Half) | linkDepth | faultWord (i : Fin 7)
  | apertureBase (a : WayId) (half : Half) | apertureLimit (a : WayId) (half : Half) | apertureControl (a : WayId)
  deriving DecidableEq, Repr

/-- The registers of the window. -/
inductive Reg where
  | id | capability | deviceControl | deviceStatus | resetCause | responseTimeout | dozeDelay | cacheControl | acwMask
  | eventBase (half : Half) | eventSize | eventTail | eventHead
  | lostEvents | lateCount | lostWriteBacks | prefetchFails
  | chan (c : Chan) (r : ChanReg)
  deriving DecidableEq, Repr

/-- The register of a channel block at an offset from the block's base (Table 12-2). -/
def ChanReg.ofOffset (o : Nat) : Option ChanReg :=
  let aperture (a : WayId) (k : Nat) : Option ChanReg :=
    match k with
    | 0x00 => some (.apertureBase a .low)
    | 0x04 => some (.apertureBase a .high)
    | 0x08 => some (.apertureLimit a .low)
    | 0x0C => some (.apertureLimit a .high)
    | 0x10 => some (.apertureControl a)
    | _ => none
  match o with
  | 0x00 => some .control
  | 0x04 => some .command
  | 0x08 => some .status
  | 0x0C => some .acw
  | 0x10 => some (.ringBase .low)
  | 0x14 => some (.ringBase .high)
  | 0x18 => some .ringSize
  | 0x1C => some .ringProducer
  | 0x20 => some .ringConsumer
  | 0x24 => some (.expediteBase .low)
  | 0x28 => some (.expediteBase .high)
  | 0x2C => some .expediteSize
  | 0x30 => some .expediteProducer
  | 0x34 => some .expediteConsumer
  | 0x38 => some (.csbAddress .low)
  | 0x3C => some (.csbAddress .high)
  | 0x40 => some .linkDepth
  | 0x50 => some (.faultWord 0)
  | 0x54 => some (.faultWord 1)
  | 0x58 => some (.faultWord 2)
  | 0x5C => some (.faultWord 3)
  | 0x60 => some (.faultWord 4)
  | 0x64 => some (.faultWord 5)
  | 0x68 => some (.faultWord 6)
  | _ =>
    if o < 0x80 then none
    else aperture ⟨(o - 0x80) / 0x20 % 4, Nat.mod_lt _ (by decide)⟩ ((o - 0x80) % 0x20)

/-- The register of the device block at an offset (Table 12-1). -/
def Reg.ofDeviceOffset (o : Nat) : Option Reg :=
  match o with
  | 0x000 => some .id
  | 0x004 => some .capability
  | 0x008 => some .deviceControl
  | 0x00C => some .deviceStatus
  | 0x010 => some .resetCause
  | 0x014 => some .responseTimeout
  | 0x018 => some .dozeDelay
  | 0x01C => some .cacheControl
  | 0x020 => some .acwMask
  | 0x030 => some (.eventBase .low)
  | 0x034 => some (.eventBase .high)
  | 0x038 => some .eventSize
  | 0x03C => some .eventTail
  | 0x040 => some .eventHead
  | 0x044 => some .lostEvents
  | 0x050 => some .lateCount
  | 0x054 => some .lostWriteBacks
  | 0x058 => some .prefetchFails
  | _ => none

/-- The register at an offset of the window, if one is placed there (R175). -/
def Reg.ofOffset (offset : BitVec 12) : Option Reg :=
  let o := offset.toNat
  if o < 0x100 then Reg.ofDeviceOffset o
  else if o < 0x800 || 0xC00 ≤ o then none
  else (ChanReg.ofOffset (o % 0x100)).map (.chan ⟨(o - 0x800) / 0x100 % 4, Nat.mod_lt _ (by decide)⟩)

/-- The offset of a half. -/
def Half.words : Half → Nat
  | .low => 0
  | .high => 4

/-- The offset of a channel register from the base of its block (Table 12-2). -/
def ChanReg.offset (r : ChanReg) : Nat :=
  match r with
  | .control => 0x00
  | .command => 0x04
  | .status => 0x08
  | .acw => 0x0C
  | .ringBase h => 0x10 + Half.words h
  | .ringSize => 0x18
  | .ringProducer => 0x1C
  | .ringConsumer => 0x20
  | .expediteBase h => 0x24 + Half.words h
  | .expediteSize => 0x2C
  | .expediteProducer => 0x30
  | .expediteConsumer => 0x34
  | .csbAddress h => 0x38 + Half.words h
  | .linkDepth => 0x40
  | .faultWord i => 0x50 + 4 * i.val
  | .apertureBase a h => 0x80 + 0x20 * a.val + Half.words h
  | .apertureLimit a h => 0x88 + 0x20 * a.val + Half.words h
  | .apertureControl a => 0x90 + 0x20 * a.val

/-- The offset of a register in the window (Tables 12-1 and 12-2). -/
def Reg.offset (r : Reg) : BitVec 12 :=
  BitVec.ofNat 12 <|
    match r with
    | .id => 0x000
    | .capability => 0x004
    | .deviceControl => 0x008
    | .deviceStatus => 0x00C
    | .resetCause => 0x010
    | .responseTimeout => 0x014
    | .dozeDelay => 0x018
    | .cacheControl => 0x01C
    | .acwMask => 0x020
    | .eventBase h => 0x030 + Half.words h
    | .eventSize => 0x038
    | .eventTail => 0x03C
    | .eventHead => 0x040
    | .lostEvents => 0x044
    | .lateCount => 0x050
    | .lostWriteBacks => 0x054
    | .prefetchFails => 0x058
    | .chan c r => 0x800 + 0x100 * c.val + r.offset

/-! ### Reads -/

/-- The power state code of Device Status, with Quiesced-Probe (R166, R177). -/
def State.powerCode (s : State) : Nat :=
  match s.device.power with
  | .active => 0
  | .doze => 1
  | .quiescing => 2
  | .quiesced => if s.cache.sweep.isSome || !s.cache.evict.isEmpty then 4 else 3
  | .dormantEntry => 5
  | .dormant => 6
  | .waking => 7

/-- Retired tags of a pool (R156). -/
def Link.retired (l : Link) (data : Bool) : Nat :=
  (allTags.filter fun t => isDataTag t == data && (l.tag t).state == .retired).length

/-- Device Status (R177). -/
def State.deviceStatus (s : State) : Word32 :=
  let d := s.device
  fieldAt s.powerCode 0 ||| flagAt s.engine.fatal 3 ||| flagAt s.cache.flushDone 4 ||| flagAt d.partialWrite 8 |||
    flagAt d.dormantAccess 9 ||| flagAt d.powerRejected 10 ||| flagAt d.eventConfigRejected 11 |||
    flagAt d.eventHeadRejected 12 ||| fieldAt (s.link.retired true) 16 ||| fieldAt (s.link.retired false) 24

/-- Channel Status (R179). -/
def Channel.status (h : Channel) : Word32 :=
  fieldAt h.state.code 0 ||| flagAt h.heldQuiesce 4 ||| flagAt h.heldFatal 5 ||| flagAt h.resetDraining 6 |||
    flagAt h.pendingPark 7 ||| fieldAt h.reason.code 8 ||| flagAt h.doorbellOut 13 ||| flagAt h.acwRejected 14 |||
    fieldAt h.cause.code 16

/-- What a channel register reads (R178). -/
def Channel.read (h : Channel) (r : ChanReg) : Word32 :=
  match r with
  | .control => flagAt (h.state != .disabled) 0 ||| flagAt h.compact 1
  | .command => 0
  | .status => h.status
  | .acw => h.acw
  | .ringBase half => getHalf h.normal.base half
  | .ringSize => BitVec.ofNat 32 h.normal.size
  | .ringProducer => BitVec.ofNat 32 h.normal.producer
  | .ringConsumer => BitVec.ofNat 32 h.normal.consumer
  | .expediteBase half => getHalf h.expedite.base half
  | .expediteSize => BitVec.ofNat 32 h.expedite.size
  | .expediteProducer => BitVec.ofNat 32 h.expedite.producer
  | .expediteConsumer => BitVec.ofNat 32 h.expedite.consumer
  | .csbAddress half => getHalf h.csbAddress half
  | .linkDepth => BitVec.ofNat 32 h.links.length
  | .faultWord i => h.fault.word i.val
  | .apertureBase a half => getHalf (h.apertures[a.val]).base half
  | .apertureLimit a half => getHalf (h.apertures[a.val]).limit half
  | .apertureControl a => (h.apertures[a.val]).control.setWidth 32

/-- What a register reads (R176). -/
def State.readReg (s : State) (r : Reg) : Word32 :=
  match r with
  | .id => Config.idValue
  | .capability => Config.capabilityValue
  | .deviceControl => flagAt s.device.quiesce 0 ||| flagAt s.device.irqEnable 1
  | .deviceStatus => s.deviceStatus
  | .resetCause => fieldAt s.device.cause.code 0
  | .responseTimeout => BitVec.ofNat 32 s.link.responseTimeout
  | .dozeDelay => BitVec.ofNat 32 s.device.dozeDelay
  | .cacheControl => flagAt s.cache.prefetchOn 0
  | .acwMask => Config.acwMask
  | .eventBase half => getHalf s.engine.base half
  | .eventSize => BitVec.ofNat 32 s.engine.size
  | .eventTail => BitVec.ofNat 32 s.engine.tail
  | .eventHead => BitVec.ofNat 32 s.engine.head
  | .lostEvents => BitVec.ofNat 32 s.engine.lost
  | .lateCount => BitVec.ofNat 32 s.link.lateCount
  | .lostWriteBacks => BitVec.ofNat 32 s.cache.lostWriteBacks
  | .prefetchFails => BitVec.ofNat 32 s.cache.prefetchFails
  | .chan c r => (s.ch c).read r

/-- The registers that respond in Dormant and Waking (R168). -/
def Reg.respondsDormant (r : Reg) : Bool := r == .id || r == .deviceControl || r == .deviceStatus

/-- Dormant or Waking (R168). -/
def State.asleep (s : State) : Bool := s.device.power == .dormant || s.device.power == .waking

/-- A RegRead (R158, R168, R175): it changes nothing, so it is no command of the table (log 22). -/
def State.readRegister (s : State) (offset : BitVec 12) : Word32 :=
  match Reg.ofOffset offset with
  | some r => if s.asleep && !r.respondsDormant then 0 else s.readReg r
  | none => 0

/-! ### Writes to channel configuration -/

/-- A ring size is legal (R7). -/
def ringSizeLegal (v : Word32) : Bool :=
  [0, 16, 32, 64, 128, 256, 512, 1024, 2048, 4096].contains v.toNat

/-- An expedite ring size is legal (R7). -/
def expediteSizeLegal (v : Word32) : Bool := [0, 4, 8, 16, 32, 64].contains v.toNat

/-- A ring with a new size: its indices are 0 (R7). -/
def Ring.resized (r : Ring) (v : Word32) : Ring := { r.rewind with size := v.toNat }

/-- A write to Ring Size (R7). -/
def Channel.writeRingSize (h : Channel) (v : Word32) : Channel :=
  if h.state != .disabled then { h with reason := .configWrongState }
  else if !ringSizeLegal v then { h with reason := .ringSizeInvalid }
  else { h with normal := h.normal.resized v, links := [], listPos := none }

/-- A write to Expedite Size (R7). -/
def Channel.writeExpediteSize (h : Channel) (v : Word32) : Channel :=
  if h.state != .disabled then { h with reason := .configWrongState }
  else if !expediteSizeLegal v then { h with reason := .ringSizeInvalid }
  else { h with expedite := h.expedite.resized v }

/-- A 64-bit register with one word written; in compact mode the high word stays 0 (R88). -/
def Channel.put (h : Channel) (x : Word64) (half : Half) (v : Word32) : Word64 :=
  if h.compact && half == .high then x else putHalf x half v

/-- The reason a write to a Ring Base or Expedite Base word is rejected (R7). -/
def Channel.baseRefusal (h : Channel) (half : Half) (v : Word32) : Option Reason :=
  if h.state != .disabled then some .configWrongState
  else if half == .low && v &&& 0xFFF#32 != 0 then some .ringBaseMisaligned
  else none

/-- A write to a Ring Base word (R7, R88). -/
def Channel.writeRingBase (h : Channel) (half : Half) (v : Word32) : Channel :=
  match h.baseRefusal half v with
  | some r => { h with reason := r }
  | none => { h with normal := { h.normal with base := h.put h.normal.base half v } }

/-- A write to an Expedite Base word (R7, R88). -/
def Channel.writeExpediteBase (h : Channel) (half : Half) (v : Word32) : Channel :=
  match h.baseRefusal half v with
  | some r => { h with reason := r }
  | none => { h with expedite := { h.expedite with base := h.put h.expedite.base half v } }

/-- A write to a CSB Address word (R88, R110).  In Idle an address of 0 is accepted also while a park is claimed (DESIGN
CHOICE, log 46). -/
def Channel.writeCsb (h : Channel) (half : Half) (v : Word32) : Channel :=
  let x := h.put h.csbAddress half v
  if !(h.state == .disabled || h.state == .idle || h.state == .parked) then { h with reason := .configWrongState }
  else if half == .low && v &&& 0x1FF#32 != 0 then { h with reason := .csbMisaligned }
  else if h.state == .parked && x == 0 then { h with reason := .configWrongState }
  else { h with csbAddress := x }

/-- A word with its high half cleared. -/
def clearHigh (x : Word64) : Word64 := putHalf x .high 0

/-- The channel as it enters compact addressing mode (R88). -/
def Channel.enterCompact (h : Channel) : Channel :=
  let clear (a : Aperture) : Aperture := { a with base := clearHigh a.base, limit := clearHigh a.limit }
  { h with
    compact := true, normal := { h.normal with base := clearHigh h.normal.base },
    expedite := { h.expedite with base := clearHigh h.expedite.base }, csbAddress := clearHigh h.csbAddress,
    apertures := allWays.foldl (fun v i => v.set i.val (clear v[i.val])) h.apertures }

/-- A write of the Compact bit of Channel Control (R88, R178). -/
def Channel.writeCompact (h : Channel) (on : Bool) : Channel :=
  if on == h.compact then h
  else if h.state != .disabled then { h with reason := .configWrongState }
  else if on then h.enterCompact
  else { h with compact := false }

/-- Change an aperture, in Disabled only (R90). -/
def Channel.writeAperture (h : Channel) (a : WayId) (f : Aperture → Aperture) : Channel :=
  if h.state != .disabled then { h with reason := .configWrongState }
  else { h with apertures := h.apertures.set a.val (f h.apertures[a.val]) }

/-- A write to an Aperture Base word (R88, R90). -/
def Channel.writeApertureBase (h : Channel) (a : WayId) (half : Half) (v : Word32) : Channel :=
  let v := if half == .low then v &&& 0xFFFFF000#32 else v
  h.writeAperture a fun x => { x with base := h.put x.base half v }

/-- A write to an Aperture Limit word (R88, R90). -/
def Channel.writeApertureLimit (h : Channel) (a : WayId) (half : Half) (v : Word32) : Channel :=
  let v := if half == .low then v ||| 0xFFF#32 else v
  h.writeAperture a fun x => { x with limit := h.put x.limit half v }

/-- A write to an Aperture Control word (R90, R178). -/
def Channel.writeApertureControl (h : Channel) (a : WayId) (v : Word32) : Channel :=
  h.writeAperture a fun x => { x with control := v.setWidth 3 }

/-- A write to the ACW register (R61). -/
def Channel.writeAcw (h : Channel) (v : Word32) : Channel :=
  if !(h.state == .disabled || h.state == .idle || h.state == .faulted || h.state == .parked) then
    { h with reason := .acwWrongState, acwRejected := true }
  else if !acwLegal v then { h with reason := .acwReservedBit, acwRejected := true }
  else { h with acw := v }

/-- A write to Channel Status (R179). -/
def Channel.writeStatus (h : Channel) (v : Word32) : Channel :=
  { h with doorbellOut := h.doorbellOut && !v[13], acwRejected := h.acwRejected && !v[14] }

/-! ### Doorbells -/

/-- The check of a doorbell (R8). -/
def Ring.doorbellRefusal (r : Ring) (v : Word32) : Option Reason :=
  if r.size ≤ v.toNat then some .producerOutOfRange
  else if ringDistance r.size r.consumer v.toNat < ringDistance r.size r.consumer r.fetch then
    some .producerBehindFetch
  else none

/-- A rejected doorbell (R8). -/
def Channel.rejectDoorbell (h : Channel) (r : Reason) : Channel := { h with reason := r, doorbellOut := true }

/-- A write to Ring Producer (R8). -/
def Channel.writeProducer (h : Channel) (v : Word32) : Channel :=
  match h.normal.doorbellRefusal v with
  | some r => h.rejectDoorbell r
  | none => { h with normal := { h.normal with producer := v.toNat } }

/-- A write to Expedite Producer (R8, R120): where the channel is not held, it claims an automatic park in Running and
Waiting, also while a hold that has not reached it is in force (DESIGN CHOICE, log 52). -/
def Channel.writeExpediteProducer (h : Channel) (v : Word32) : Channel :=
  match h.expedite.doorbellRefusal v with
  | some r => h.rejectDoorbell r
  | none =>
    let h := { h with expedite := { h.expedite with producer := v.toNat } }
    if h.held then h else h.claimLatched

/-! ### Writes to device registers -/

/-- A write to Event Queue Size is accepted (R129). -/
def Engine.sizeAccepted (e : Engine) (v : Word32) : Bool :=
  v == 0 || (e.size == 0 && [64, 128, 256, 512, 1024, 2048, 4096].contains v.toNat)

/-- The engine after an accepted write to Event Queue Size (R129). -/
def Engine.resize (e : Engine) (v : Word32) : Engine :=
  let e := { e with size := v.toNat, tail := 0, head := 0 }
  if v == 0 then { e with lost := satAdd e.lost e.fifo.length, fifo := [], lossMark := none } else e

/-- An event record write in flight when the queue is disabled keeps no effect on the indices (R129). -/
def Req.deaden (r : Req) : Req := if r.purpose == .event true then { r with purpose := .event false } else r

/-- A rejected write to an event queue register (R129). -/
def State.rejectEventConfig (s : State) : State :=
  { s with device := { s.device with eventConfigRejected := true } }

/-- A write to Event Queue Size (R129).  A value of 0 also withdraws an event record write that waits for its tag, one
that a draining Soft Init left waiting among them (DESIGN CHOICE, log 55). -/
def State.writeEventSize (s : State) (v : Word32) : State :=
  if !s.engine.sizeAccepted v then s.rejectEventConfig
  else
    let s := { s with engine := s.engine.resize v }
    if v == 0 then
      let l := s.link.mapOutstanding Req.deaden
      { s with link := { l with waiting := l.waiting.filter fun r => r.owner != .engine } }
    else s

/-- A write to an Event Queue Base word (R129). -/
def State.writeEventBase (s : State) (half : Half) (v : Word32) : State :=
  if s.engine.size != 0 || (half == .low && v &&& 0xFFF#32 != 0) then s.rejectEventConfig
  else { s with engine := { s.engine with base := putHalf s.engine.base half v } }

/-- A write to Event Head is accepted (R130).  All 32 bits written are compared with the size (DESIGN CHOICE, log 57). -/
def Engine.headAccepted (e : Engine) (v : Word32) : Bool :=
  v.toNat < e.size && ringDistance e.size e.head v.toNat ≤ ringDistance e.size e.head e.tail

/-- A write to Event Head (R130). -/
def State.writeEventHead (s : State) (v : Word32) : State :=
  if s.engine.headAccepted v then { s with engine := { s.engine with head := v.toNat } }
  else { s with device := { s.device with eventHeadRejected := true } }

/-- A write to Device Status (R177). -/
def State.writeDeviceStatus (s : State) (v : Word32) : State :=
  let d := s.device
  { s with device :=
      { d with partialWrite := d.partialWrite && !v[8], dormantAccess := d.dormantAccess && !v[9],
               powerRejected := d.powerRejected && !v[10], eventConfigRejected := d.eventConfigRejected && !v[11],
               eventHeadRejected := d.eventHeadRejected && !v[12] } }

/-- A Flush and Invalidate request is queued or running (R146). -/
def Cache.flushPending (k : Cache) : Bool := (k.queue.any fun q => q.kind == .command) || !k.commandSweeps.isEmpty

/-- An accepted Flush and Invalidate command (R146; log 21). -/
def Cache.flushCommand (k : Cache) : Cache :=
  { (if k.flushPending then k else k.request .command) with flushDone := false }

/-- A write to Cache Control (R140, R146, R176). -/
def State.writeCacheControl (s : State) (v : Word32) : State :=
  if v[1] then
    match s.device.power with
    | .active | .quiesced => s.modCache fun k => { k.flushCommand with prefetchOn := v[0] }
    | _ => { s with device := { s.device with powerRejected := true } }
  else s.modCache fun k => { k with prefetchOn := v[0] }

/-- A write to Channel Command (R27, R163). -/
def State.writeCommand (s : State) (c : Chan) (v : Word32) : State :=
  match ChanCmd.ofCode v with
  | some cmd => s.command c cmd
  | none => s.reject c .unknownCommand

/-- A write that reaches a channel register (R178); a write to a read-only register changes nothing (R175). -/
def State.writeChan (s : State) (c : Chan) (r : ChanReg) (v : Word32) : State :=
  match r with
  | .command => s.writeCommand c v
  | .control => s.modCh c (·.writeCompact v[1])
  | .status => s.modCh c (·.writeStatus v)
  | .acw => s.modCh c (·.writeAcw v)
  | .ringBase half => s.modCh c (·.writeRingBase half v)
  | .ringSize => s.modCh c (·.writeRingSize v)
  | .ringProducer => s.modCh c (·.writeProducer v)
  | .expediteBase half => s.modCh c (·.writeExpediteBase half v)
  | .expediteSize => s.modCh c (·.writeExpediteSize v)
  | .expediteProducer => s.modCh c (·.writeExpediteProducer v)
  | .csbAddress half => s.modCh c (·.writeCsb half v)
  | .apertureBase a half => s.modCh c (·.writeApertureBase a half v)
  | .apertureLimit a half => s.modCh c (·.writeApertureLimit a half v)
  | .apertureControl a => s.modCh c (·.writeApertureControl a v)
  | .ringConsumer | .expediteConsumer | .linkDepth | .faultWord _ => s

/-- A write that reaches a register (R176). -/
def State.writeReg (s : State) (r : Reg) (v : Word32) : State :=
  match r with
  | .deviceControl => s.deviceControl v
  | .deviceStatus => s.writeDeviceStatus v
  | .responseTimeout => { s with link := { s.link with responseTimeout := v.toNat % 65536 } }
  | .dozeDelay => { s with device := { s.device with dozeDelay := v.toNat % 65536 } }
  | .cacheControl => s.writeCacheControl v
  | .eventBase half => s.writeEventBase half v
  | .eventSize => s.writeEventSize v
  | .eventHead => s.writeEventHead v
  | .lostEvents => { s with engine := { s.engine with lost := 0 } }
  | .lateCount => { s with link := { s.link with lateCount := 0 } }
  | .lostWriteBacks => s.modCache fun k => { k with lostWriteBacks := 0 }
  | .prefetchFails => s.modCache fun k => { k with prefetchFails := 0 }
  | .chan c r => s.writeChan c r v
  | .id | .capability | .resetCause | .acwMask | .eventTail => s

/-- Every RegWrite sets the Doze timer to 0, and moves the part from Doze to Active first (R161, R162). -/
def State.wakeDoze (s : State) : State :=
  { s with device :=
      { s.device with power := if s.device.power == .doze then .active else s.device.power, dozeTimer := 0 } }

/-- A full RegWrite up to its RegDone (R158, R162, R168): in Dormant and Waking only Device Control responds to one. -/
def State.offer (s : State) (r : Option Reg) (v : Word32) : State :=
  let s := s.begin.wakeDoze
  let s :=
    if s.asleep && r != some .deviceControl then
      { s with device := { s.device with dormantAccess := true } }
    else
      match r with
      | some r => s.writeReg r v
      | none => s
  s.send .regDone

/-- A RegWrite with fewer than four byte enables (R158). -/
def State.offerPartial (s : State) : State :=
  let s := s.begin.wakeDoze
  ({ s with device := { s.device with partialWrite := true } }).send .regDone

end Sys2Proof.Machine
end

