-- ==== Sys2Proof/Machine/DeviceCommands.lean ====
section
/-! DEFINITION. The commands of the device block: resets, power requests, Cache Control, the event queue, counters and status (R129 to
R131, R140, R146, R157, R158, R160 to R172, R177). -/
namespace Sys2Proof.Machine

/-- The answer to a RegWrite that leaves the part nothing to do of its own accord (R158). -/
def State.regWrite (s : State) (r : Reg) (v : Word32) : State := (s.offer (some r) v).close

/-- The answer to a RegWrite after which the part may go on of its own accord (R158; log 6). -/
def State.regWriteSettle (s : State) (r : Reg) (v : Word32) : State := (s.offer (some r) v).settleClose

/-- A Device Control word with one bit set, which makes the write the row it stands for (log 31). -/
def withBit (w : Word32) (place : Nat) : Word32 := w ||| (1#32 <<< place)

/-- POWER_ON_RESET (R170). -/
def execPowerOnReset (s : State) : Host.Outcome State Fault Refusal :=
  .next s.powerOn

/-- DEVICE_RESET: a Device Control write that sets Device Reset (R160, R169, R170). -/
def execDeviceReset (word : Word32) (s : State) : Host.Outcome State Fault Refusal :=
  .next (s.regWriteSettle .deviceControl (withBit word 7))

/-- SOFT_INIT: a Device Control write that sets Soft Init (R160, R169, R171, R172). -/
def execSoftInit (word : Word32) (s : State) : Host.Outcome State Fault Refusal :=
  .next (s.regWriteSettle .deviceControl (withBit word 6))

/-- QUIESCE: a Device Control write with Quiesce 1 (R160, R163, R164). -/
def execQuiesce (word : Word32) (s : State) : Host.Outcome State Fault Refusal :=
  .next (s.regWriteSettle .deviceControl (withBit word 0))

/-- QUIESCE_RELEASE: a Device Control write with Quiesce 0 (R160, R164, R165). -/
def execQuiesceRelease (word : Word32) (s : State) : Host.Outcome State Fault Refusal :=
  .next (s.regWriteSettle .deviceControl (word &&& ~~~1#32))

/-- DORMANT: a Device Control write that sets Dormant (R160, R167). -/
def execDormant (word : Word32) (s : State) : Host.Outcome State Fault Refusal :=
  .next (s.regWriteSettle .deviceControl (withBit word 4))

/-- WAKE: a Device Control write that sets Wake (R160, R168). -/
def execWake (word : Word32) (s : State) : Host.Outcome State Fault Refusal :=
  .next (s.regWriteSettle .deviceControl (withBit word 5))

/-- WAKE_COMPLETE: Waking is done (R168); no effect in another power state (log 27). -/
def execWakeComplete (s : State) : Host.Outcome State Fault Refusal :=
  .next <|
    if s.device.power == .waking then ((s.begin.setPower .quiesced).ack .wakeAck).settleClose else s.begin.close

/-- INTERRUPT_ENABLE: a Device Control write that keeps Quiesce, sets no action bit and writes Interrupt Enable (R134, R160;
log 31). -/
def execInterruptEnable (on : Bool) (s : State) : Host.Outcome State Fault Refusal :=
  .next (s.regWrite .deviceControl (flagAt s.device.quiesce 0 ||| flagAt on 1))

/-- FLUSH_AND_INVALIDATE: a Cache Control write with bit 1 set (R146, R176). -/
def execFlushAndInvalidate (prefetch : Bool) (s : State) : Host.Outcome State Fault Refusal :=
  .next (s.regWriteSettle .cacheControl (withBit (flagAt prefetch 0) 1))

/-- SIBLING_PREFETCH_ENABLE: a Cache Control write with bit 1 clear (R140, R176). -/
def execSiblingPrefetchEnable (on : Bool) (s : State) : Host.Outcome State Fault Refusal :=
  .next (s.regWrite .cacheControl (flagAt on 0))

/-- EVENT_QUEUE_SIZE (R129). -/
def execEventQueueSize (value : Word32) (s : State) : Host.Outcome State Fault Refusal :=
  .next (s.regWriteSettle .eventSize value)

/-- EVENT_QUEUE_BASE (R129). -/
def execEventQueueBase (half : Half) (value : Word32) (s : State) : Host.Outcome State Fault Refusal :=
  .next (s.regWrite (.eventBase half) value)

/-- EVENT_HEAD (R130, R134). -/
def execEventHead (value : Word32) (s : State) : Host.Outcome State Fault Refusal :=
  .next (s.regWrite .eventHead value)

/-- LOST_EVENTS (R131). -/
def execLostEvents (value : Word32) (s : State) : Host.Outcome State Fault Refusal :=
  .next (s.regWrite .lostEvents value)

/-- LATE_RESPONSE_COUNT (R157). -/
def execLateResponseCount (value : Word32) (s : State) : Host.Outcome State Fault Refusal :=
  .next (s.regWrite .lateCount value)

/-- LOST_WRITE_BACK_COUNT (R143, R149). -/
def execLostWriteBackCount (value : Word32) (s : State) : Host.Outcome State Fault Refusal :=
  .next (s.regWrite .lostWriteBacks value)

/-- SIBLING_PREFETCH_FAIL_COUNT (R140, R149). -/
def execSiblingPrefetchFailCount (value : Word32) (s : State) : Host.Outcome State Fault Refusal :=
  .next (s.regWrite .prefetchFails value)

/-- DEVICE_STATUS (R177). -/
def execDeviceStatus (value : Word32) (s : State) : Host.Outcome State Fault Refusal :=
  .next (s.regWrite .deviceStatus value)

/-- PARTIAL_REGISTER_WRITE: a RegWrite with fewer than four byte enables set is offered to no register (R158). -/
def execPartialRegisterWrite (_offset : BitVec 12) (_enables : BitVec 4) (_value : Word32) (s : State) : Host.Outcome State Fault Refusal :=
  .next s.offerPartial.close

/-- REGISTER_WRITE: a full RegWrite to any offset (R158, R175, R176, R178; log 23). -/
def execRegisterWrite (offset : BitVec 12) (value : Word32) (s : State) : Host.Outcome State Fault Refusal :=
  .next (s.offer (Reg.ofOffset offset) value).settleClose

end Sys2Proof.Machine
end

