-- ==== Sys2Proof/Machine/ChannelCommands.lean ====
section
/-! DEFINITION. The nine commands of Channel Command (R27 to R31, R102 to R106, R114, R117, R133, R163, R178). -/
namespace Sys2Proof.Machine

/-- A full RegWrite of a command code to Channel Command (R27, R178). -/
def State.commandWrite (s : State) (c : Chan) (cmd : ChanCmd) : State :=
  s.regWriteSettle (.chan c .command) cmd.code

/-- ENABLE (R28). -/
def execEnable (c : Chan) (s : State) : Host.Outcome State Fault Refusal :=
  .next (s.commandWrite c .enable)

/-- DISABLE (R29, R30). -/
def execDisable (c : Chan) (s : State) : Host.Outcome State Fault Refusal :=
  .next (s.commandWrite c .disable)

/-- RESET: a Channel Reset (R31, R173). -/
def execReset (c : Chan) (s : State) : Host.Outcome State Fault Refusal :=
  .next (s.commandWrite c .reset)

/-- PARK (R114, R115). -/
def execPark (c : Chan) (s : State) : Host.Outcome State Fault Refusal :=
  .next (s.commandWrite c .park)

/-- UNPARK (R117 to R119). -/
def execUnpark (c : Chan) (s : State) : Host.Outcome State Fault Refusal :=
  .next (s.commandWrite c .unpark)

/-- RESUME_RETRY (R102, R103). -/
def execResumeRetry (c : Chan) (s : State) : Host.Outcome State Fault Refusal :=
  .next (s.commandWrite c .resumeRetry)

/-- RESUME_SKIP (R102, R104). -/
def execResumeSkip (c : Chan) (s : State) : Host.Outcome State Fault Refusal :=
  .next (s.commandWrite c .resumeSkip)

/-- RESUME_SUBSTITUTE (R78, R102, R105). -/
def execResumeSubstitute (c : Chan) (s : State) : Host.Outcome State Fault Refusal :=
  .next (s.commandWrite c .resumeSubstitute)

/-- RESUME_ABANDON (R102, R106). -/
def execResumeAbandon (c : Chan) (s : State) : Host.Outcome State Fault Refusal :=
  .next (s.commandWrite c .resumeAbandon)

end Sys2Proof.Machine
end

