-- ==== Sys2Proof/Machine/ChannelRegisters.lean ====
section
/-! DEFINITION. Doorbells and channel configuration (R7, R8, R61, R88, R90, R110, R120, R178, R179). -/
namespace Sys2Proof.Machine

/-- RING_PRODUCER: a doorbell on the normal ring (R8, R11). -/
def execRingProducer (c : Chan) (value : Word32) (s : State) : Host.Outcome State Fault Refusal :=
  .next (s.regWriteSettle (.chan c .ringProducer) value)

/-- EXPEDITE_PRODUCER: a doorbell on the expedite ring (R8, R120). -/
def execExpediteProducer (c : Chan) (value : Word32) (s : State) : Host.Outcome State Fault Refusal :=
  .next (s.regWriteSettle (.chan c .expediteProducer) value)

/-- RING_SIZE (R7). -/
def execRingSize (c : Chan) (value : Word32) (s : State) : Host.Outcome State Fault Refusal :=
  .next (s.regWrite (.chan c .ringSize) value)

/-- EXPEDITE_SIZE (R7). -/
def execExpediteSize (c : Chan) (value : Word32) (s : State) : Host.Outcome State Fault Refusal :=
  .next (s.regWrite (.chan c .expediteSize) value)

/-- RING_BASE (R7, R88). -/
def execRingBase (c : Chan) (half : Half) (value : Word32) (s : State) : Host.Outcome State Fault Refusal :=
  .next (s.regWrite (.chan c (.ringBase half)) value)

/-- EXPEDITE_BASE (R7, R88). -/
def execExpediteBase (c : Chan) (half : Half) (value : Word32) (s : State) : Host.Outcome State Fault Refusal :=
  .next (s.regWrite (.chan c (.expediteBase half)) value)

/-- CSB_ADDRESS (R88, R110). -/
def execCsbAddress (c : Chan) (half : Half) (value : Word32) (s : State) : Host.Outcome State Fault Refusal :=
  .next (s.regWrite (.chan c (.csbAddress half)) value)

/-- APERTURE_BASE (R88, R90). -/
def execApertureBase (c : Chan) (a : WayId) (half : Half) (value : Word32) (s : State) : Host.Outcome State Fault Refusal :=
  .next (s.regWrite (.chan c (.apertureBase a half)) value)

/-- APERTURE_LIMIT (R88, R90). -/
def execApertureLimit (c : Chan) (a : WayId) (half : Half) (value : Word32) (s : State) : Host.Outcome State Fault Refusal :=
  .next (s.regWrite (.chan c (.apertureLimit a half)) value)

/-- APERTURE_CONTROL (R90, R178). -/
def execApertureControl (c : Chan) (a : WayId) (value : Word32) (s : State) : Host.Outcome State Fault Refusal :=
  .next (s.regWrite (.chan c (.apertureControl a)) value)

/-- ACW (R61). -/
def execAcw (c : Chan) (value : Word32) (s : State) : Host.Outcome State Fault Refusal :=
  .next (s.regWrite (.chan c .acw) value)

/-- CHANNEL_STATUS (R179). -/
def execChannelStatus (c : Chan) (value : Word32) (s : State) : Host.Outcome State Fault Refusal :=
  .next (s.regWrite (.chan c .status) value)

/-- COMPACT: a Channel Control write whose bit 1 is the Compact bit (R88, R178). -/
def execCompact (c : Chan) (on : Bool) (s : State) : Host.Outcome State Fault Refusal :=
  .next (s.regWrite (.chan c .control) (flagAt on 1))

end Sys2Proof.Machine
end

