-- ==== Sys2Proof/Machine/LinkResponses.lean ====
section
/-! DEFINITION. The responses of the host (R99 to R101, R109, R126, R130, R133, R138 to R143, R149, R151, R156, R157). -/
namespace Sys2Proof.Machine

/-- A response arrives on the link, and the part goes on (R156; log 3, log 6). -/
def State.arrive (s : State) (tag : TagId) (gen : Bool) (resp : Response) : State :=
  (s.begin.receive tag gen resp).settleClose

/-- FETCH_SHARED_DATA (R138, R148). -/
def execFetchSharedData (tag : TagId) (gen : Bool) (grant : Grant) (bytes : Line) (s : State) : Host.Outcome State Fault Refusal :=
  .next (s.arrive tag gen (.data grant bytes))

/-- SIBLING_PREFETCH_DATA (R140). -/
def execSiblingPrefetchData (tag : TagId) (gen : Bool) (grant : Grant) (bytes : Line) (s : State) : Host.Outcome State Fault Refusal :=
  .next (s.arrive tag gen (.data grant bytes))

/-- FETCH_OWNED_DATA (R141, R148). -/
def execFetchOwnedData (tag : TagId) (gen : Bool) (grant : Grant) (bytes : Line) (s : State) : Host.Outcome State Fault Refusal :=
  .next (s.arrive tag gen (.data grant bytes))

/-- UPGRADE_DATA (R141, R148). -/
def execUpgradeData (tag : TagId) (gen : Bool) (grant : Grant) (bytes : Line) (s : State) : Host.Outcome State Fault Refusal :=
  .next (s.arrive tag gen (.data grant bytes))

/-- READ_DIRECT_DATA: Data for a bypass read of an element or an index entry (R142). -/
def execReadDirectData (tag : TagId) (gen : Bool) (grant : Grant) (bytes : Line) (s : State) : Host.Outcome State Fault Refusal :=
  .next (s.arrive tag gen (.data grant bytes))

/-- DESCRIPTOR_HALF_DATA (R12, R16). -/
def execDescriptorHalfData (tag : TagId) (gen : Bool) (grant : Grant) (bytes : Line) (s : State) : Host.Outcome State Fault Refusal :=
  .next (s.arrive tag gen (.data grant bytes))

/-- CSB_READ_DATA (R117 to R119). -/
def execCsbReadData (tag : TagId) (gen : Bool) (grant : Grant) (bytes : Line) (s : State) : Host.Outcome State Fault Refusal :=
  .next (s.arrive tag gen (.data grant bytes))

/-- UPGRADE_DONE (R141). -/
def execUpgradeDone (tag : TagId) (gen : Bool) (s : State) : Host.Outcome State Fault Refusal :=
  .next (s.arrive tag gen .done)

/-- BYPASS_WRITE_DONE (R17, R142). -/
def execBypassWriteDone (tag : TagId) (gen : Bool) (s : State) : Host.Outcome State Fault Refusal :=
  .next (s.arrive tag gen .done)

/-- COMPLETION_RECORD_DONE (R15, R126). -/
def execCompletionRecordDone (tag : TagId) (gen : Bool) (s : State) : Host.Outcome State Fault Refusal :=
  .next (s.arrive tag gen .done)

/-- CSB_WRITE_DONE (R113). -/
def execCsbWriteDone (tag : TagId) (gen : Bool) (s : State) : Host.Outcome State Fault Refusal :=
  .next (s.arrive tag gen .done)

/-- EVENT_RECORD_DONE (R130). -/
def execEventRecordDone (tag : TagId) (gen : Bool) (s : State) : Host.Outcome State Fault Refusal :=
  .next (s.arrive tag gen .done)

/-- WRITELINE_DONE (R143). -/
def execWritelineDone (tag : TagId) (gen : Bool) (s : State) : Host.Outcome State Fault Refusal :=
  .next (s.arrive tag gen .done)

/-- FETCH_FAIL: Fail for a FetchShared, FetchOwned, Upgrade or stream ReadDirect (R99, R149). -/
def execFetchFail (tag : TagId) (gen : Bool) (reason : FailReason) (s : State) : Host.Outcome State Fault Refusal :=
  .next (s.arrive tag gen (.fail reason))

/-- SIBLING_PREFETCH_FAIL (R140, R149). -/
def execSiblingPrefetchFail (tag : TagId) (gen : Bool) (reason : FailReason) (s : State) : Host.Outcome State Fault Refusal :=
  .next (s.arrive tag gen (.fail reason))

/-- DESCRIPTOR_FETCH_FAIL (R12). -/
def execDescriptorFetchFail (tag : TagId) (gen : Bool) (reason : FailReason) (s : State) : Host.Outcome State Fault Refusal :=
  .next (s.arrive tag gen (.fail reason))

/-- CSB_READ_FAIL (R109, R117). -/
def execCsbReadFail (tag : TagId) (gen : Bool) (reason : FailReason) (s : State) : Host.Outcome State Fault Refusal :=
  .next (s.arrive tag gen (.fail reason))

/-- BYPASS_WRITE_FAIL (R100). -/
def execBypassWriteFail (tag : TagId) (gen : Bool) (reason : FailReason) (s : State) : Host.Outcome State Fault Refusal :=
  .next (s.arrive tag gen (.fail reason))

/-- COMPLETION_RECORD_FAIL (R109). -/
def execCompletionRecordFail (tag : TagId) (gen : Bool) (reason : FailReason) (s : State) : Host.Outcome State Fault Refusal :=
  .next (s.arrive tag gen (.fail reason))

/-- CSB_WRITE_FAIL (R109, R113). -/
def execCsbWriteFail (tag : TagId) (gen : Bool) (reason : FailReason) (s : State) : Host.Outcome State Fault Refusal :=
  .next (s.arrive tag gen (.fail reason))

/-- EVENT_RECORD_FAIL (R133). -/
def execEventRecordFail (tag : TagId) (gen : Bool) (reason : FailReason) (s : State) : Host.Outcome State Fault Refusal :=
  .next (s.arrive tag gen (.fail reason))

/-- WRITELINE_FAIL (R143). -/
def execWritelineFail (tag : TagId) (gen : Bool) (reason : FailReason) (s : State) : Host.Outcome State Fault Refusal :=
  .next (s.arrive tag gen (.fail reason))

/-- LATE_RESPONSE: a response that is not matched (R156, R157). -/
def execLateResponse (tag : TagId) (gen : Bool) (resp : Response) (s : State) : Host.Outcome State Fault Refusal :=
  .next (s.arrive tag gen resp)

end Sys2Proof.Machine
end

