-- ==== Sys2Proof/Machine/PartEvents.lean ====
section
/-! DEFINITION. Probes, beat grants, expiry, Doze, and the part's own scheduled events (R32, R33, R130, R145, R147, R157, R161). -/
namespace Sys2Proof.Machine

/-- PROBE_SHARE (R147, R148). -/
def execProbeShare (address : Word64) (s : State) : Host.Outcome State Fault Refusal :=
  .next (s.begin.probe address false).settleClose

/-- PROBE_INVALIDATE (R147, R148). -/
def execProbeInvalidate (address : Word64) (s : State) : Host.Outcome State Fault Refusal :=
  .next (s.begin.probe address true).settleClose

/-- BEAT_GRANT: the arbiter decides (R32, R33, R93; log 7). -/
def execBeatGrant (s : State) : Host.Outcome State Fault Refusal :=
  .next s.begin.grantBeat.settleClose

/-- RESPONSE_TIMEOUT: the remaining ticks of an outstanding request go by (R156, R157; log 2). -/
def execResponseTimeout (tag : TagId) (s : State) : Host.Outcome State Fault Refusal :=
  .next (s.begin.expire tag).settleClose

/-- DOZE: the remaining ticks of the Doze delay go by (R161; log 2). -/
def execDoze (s : State) : Host.Outcome State Fault Refusal :=
  .next <|
    if s.dozeCondition && s.device.dozeDelay != 0 then (s.begin.setPower .doze).close else s.begin.close

/-- SWEEP_SET: the sweep processes its next set (R145, R146, R167; log 7, log 32). -/
def execSweepSet (s : State) : Host.Outcome State Fault Refusal :=
  .next s.begin.sweepNext.settleClose

/-- EVENT_RECORD_WRITE: the event engine issues its next record write (R130, R131; log 7). -/
def execEventRecordWrite (s : State) : Host.Outcome State Fault Refusal :=
  .next s.begin.writeEvent.settleClose

end Sys2Proof.Machine
end

