-- ==== Sys2Proof/Machine/Dispatch.lean ====
section
/-! DEFINITION. The meaning of every command: one arm per constructor of `Instr`. -/
namespace Sys2Proof.Machine

/-- The effect of a command on everything but the queue of waiting commands. -/
def exec (i : Instr) (s : State) : Host.Outcome State Fault Refusal :=
  match i with
  | .powerOnReset => Sys2Proof.Machine.execPowerOnReset s
  | .deviceReset word => Sys2Proof.Machine.execDeviceReset word s
  | .softInit word => Sys2Proof.Machine.execSoftInit word s
  | .quiesce word => Sys2Proof.Machine.execQuiesce word s
  | .quiesceRelease word => Sys2Proof.Machine.execQuiesceRelease word s
  | .dormant word => Sys2Proof.Machine.execDormant word s
  | .wake word => Sys2Proof.Machine.execWake word s
  | .wakeComplete => Sys2Proof.Machine.execWakeComplete s
  | .interruptEnable on => Sys2Proof.Machine.execInterruptEnable on s
  | .flushAndInvalidate prefetch => Sys2Proof.Machine.execFlushAndInvalidate prefetch s
  | .siblingPrefetchEnable on => Sys2Proof.Machine.execSiblingPrefetchEnable on s
  | .enable c => Sys2Proof.Machine.execEnable c s
  | .disable c => Sys2Proof.Machine.execDisable c s
  | .reset c => Sys2Proof.Machine.execReset c s
  | .park c => Sys2Proof.Machine.execPark c s
  | .unpark c => Sys2Proof.Machine.execUnpark c s
  | .resumeRetry c => Sys2Proof.Machine.execResumeRetry c s
  | .resumeSkip c => Sys2Proof.Machine.execResumeSkip c s
  | .resumeSubstitute c => Sys2Proof.Machine.execResumeSubstitute c s
  | .resumeAbandon c => Sys2Proof.Machine.execResumeAbandon c s
  | .ringProducer c value => Sys2Proof.Machine.execRingProducer c value s
  | .expediteProducer c value => Sys2Proof.Machine.execExpediteProducer c value s
  | .ringSize c value => Sys2Proof.Machine.execRingSize c value s
  | .expediteSize c value => Sys2Proof.Machine.execExpediteSize c value s
  | .ringBase c half value => Sys2Proof.Machine.execRingBase c half value s
  | .expediteBase c half value => Sys2Proof.Machine.execExpediteBase c half value s
  | .compact c on => Sys2Proof.Machine.execCompact c on s
  | .csbAddress c half value => Sys2Proof.Machine.execCsbAddress c half value s
  | .apertureBase c a half value => Sys2Proof.Machine.execApertureBase c a half value s
  | .apertureLimit c a half value => Sys2Proof.Machine.execApertureLimit c a half value s
  | .apertureControl c a value => Sys2Proof.Machine.execApertureControl c a value s
  | .acw c value => Sys2Proof.Machine.execAcw c value s
  | .eventQueueSize value => Sys2Proof.Machine.execEventQueueSize value s
  | .eventQueueBase half value => Sys2Proof.Machine.execEventQueueBase half value s
  | .eventHead value => Sys2Proof.Machine.execEventHead value s
  | .lostEvents value => Sys2Proof.Machine.execLostEvents value s
  | .lateResponseCount value => Sys2Proof.Machine.execLateResponseCount value s
  | .lostWriteBackCount value => Sys2Proof.Machine.execLostWriteBackCount value s
  | .siblingPrefetchFailCount value => Sys2Proof.Machine.execSiblingPrefetchFailCount value s
  | .deviceStatus value => Sys2Proof.Machine.execDeviceStatus value s
  | .channelStatus c value => Sys2Proof.Machine.execChannelStatus c value s
  | .partialRegisterWrite offset enables value => Sys2Proof.Machine.execPartialRegisterWrite offset enables value s
  | .registerWrite offset value => Sys2Proof.Machine.execRegisterWrite offset value s
  | .probeShare address => Sys2Proof.Machine.execProbeShare address s
  | .probeInvalidate address => Sys2Proof.Machine.execProbeInvalidate address s
  | .beatGrant => Sys2Proof.Machine.execBeatGrant s
  | .fetchSharedData tag gen grant bytes => Sys2Proof.Machine.execFetchSharedData tag gen grant bytes s
  | .siblingPrefetchData tag gen grant bytes => Sys2Proof.Machine.execSiblingPrefetchData tag gen grant bytes s
  | .fetchOwnedData tag gen grant bytes => Sys2Proof.Machine.execFetchOwnedData tag gen grant bytes s
  | .upgradeDone tag gen => Sys2Proof.Machine.execUpgradeDone tag gen s
  | .upgradeData tag gen grant bytes => Sys2Proof.Machine.execUpgradeData tag gen grant bytes s
  | .readDirectData tag gen grant bytes => Sys2Proof.Machine.execReadDirectData tag gen grant bytes s
  | .descriptorHalfData tag gen grant bytes => Sys2Proof.Machine.execDescriptorHalfData tag gen grant bytes s
  | .csbReadData tag gen grant bytes => Sys2Proof.Machine.execCsbReadData tag gen grant bytes s
  | .bypassWriteDone tag gen => Sys2Proof.Machine.execBypassWriteDone tag gen s
  | .completionRecordDone tag gen => Sys2Proof.Machine.execCompletionRecordDone tag gen s
  | .csbWriteDone tag gen => Sys2Proof.Machine.execCsbWriteDone tag gen s
  | .eventRecordDone tag gen => Sys2Proof.Machine.execEventRecordDone tag gen s
  | .writelineDone tag gen => Sys2Proof.Machine.execWritelineDone tag gen s
  | .fetchFail tag gen reason => Sys2Proof.Machine.execFetchFail tag gen reason s
  | .siblingPrefetchFail tag gen reason => Sys2Proof.Machine.execSiblingPrefetchFail tag gen reason s
  | .descriptorFetchFail tag gen reason => Sys2Proof.Machine.execDescriptorFetchFail tag gen reason s
  | .csbReadFail tag gen reason => Sys2Proof.Machine.execCsbReadFail tag gen reason s
  | .bypassWriteFail tag gen reason => Sys2Proof.Machine.execBypassWriteFail tag gen reason s
  | .completionRecordFail tag gen reason => Sys2Proof.Machine.execCompletionRecordFail tag gen reason s
  | .csbWriteFail tag gen reason => Sys2Proof.Machine.execCsbWriteFail tag gen reason s
  | .eventRecordFail tag gen reason => Sys2Proof.Machine.execEventRecordFail tag gen reason s
  | .writelineFail tag gen reason => Sys2Proof.Machine.execWritelineFail tag gen reason s
  | .lateResponse tag gen resp => Sys2Proof.Machine.execLateResponse tag gen resp s
  | .responseTimeout tag => Sys2Proof.Machine.execResponseTimeout tag s
  | .doze => Sys2Proof.Machine.execDoze s
  | .sweepSet => Sys2Proof.Machine.execSweepSet s
  | .eventRecordWrite => Sys2Proof.Machine.execEventRecordWrite s

end Sys2Proof.Machine
end

