-- ==== Sys2Proof/Safety.lean ====
section
/-! DEFINITION. What counts as a safe state, and the frames that statements about commands are written in. -/
namespace Sys2Proof.Machine

/-! ### Invariants -/

/-- The part waits for the next command: nothing it does of its own accord can be done now. -/
def State.Rests (s : State) : Prop := s.progress = none

/-- No ACW and no shadow holds a 1 where the ACW Capability Mask has a 0 (R60). -/
def State.AcwsLegal (s : State) : Prop :=
  ∀ c, acwLegal (s.ch c).acw = true ∧ ∀ v, (s.ch c).shadow = some v → acwLegal v = true

/-- A request does not carry an event with sequence number 0 (R126). -/
def Req.eventNumbered (r : Req) : Bool :=
  match r.purpose with
  | .record (some v) => v.sequence != 0
  | _ => true

/-- A request that carries the event of a completion record belongs to a channel. -/
def Req.eventOfChannel (r : Req) : Bool :=
  match r.purpose, r.owner with
  | .record (some _), .channel _ => true
  | .record (some _), _ => false
  | _, _ => true

/-- No event carries sequence number 0 (R128): not the next one, none of the FIFO, and none that an outstanding completion
record write has been given; a record write that waits belongs to a channel, which numbers it as it is issued. -/
def State.SequenceNonzero (s : State) : Prop :=
  s.engine.sequence ≠ 0 ∧ (∀ v ∈ s.engine.fifo, v.sequence ≠ 0) ∧
    (∀ r ∈ s.link.outstanding, r.eventNumbered = true) ∧ (∀ r ∈ s.link.waiting, r.eventOfChannel = true)

/-- The overflow FIFO holds at most eight events (R131). -/
def State.FifoBounded (s : State) : Prop := s.engine.fifo.length ≤ Config.fifoEvents

/-- Every link stack holds at most four entries (R23). -/
def State.LinksBounded (s : State) : Prop := ∀ c, (s.ch c).links.length ≤ Config.linkEntries

/-- Every deferred command list holds at most four commands (R163). -/
def State.DeferredBounded (s : State) : Prop := ∀ c, (s.ch c).deferred.length ≤ Config.deferredCommands

/-- The eviction buffer holds at most four entries (R143). -/
def State.EvictBounded (s : State) : Prop := s.cache.evict.length ≤ Config.evictEntries

/-- The low 12 bits of every aperture base are 0 and those of every limit are 1 (R90). -/
def State.AperturesGranular (s : State) : Prop :=
  ∀ (c : Chan) (a : WayId), ((s.ch c).apertures[a.val]).base &&& 0xFFF#64 = 0 ∧
    ((s.ch c).apertures[a.val]).limit &&& 0xFFF#64 = 0xFFF#64

/-! ### Frames -/

/-- The interrupt message that an evaluation of the level sends (R134). -/
def interruptMessages (asserted level : Bool) : List Message :=
  if level == asserted then [] else [if level then .interruptAssert else .interruptDeassert]

/-- The power controller after any RegWrite, which ends Doze and sets the Doze timer to 0 (R161, R162). -/
def Device.touched (d : Device) : Device :=
  { d with power := if d.power = .doze then .active else d.power, dozeTimer := 0 }

/-- The link, its waiting requests only older (R155). -/
def Link.aged (l : Link) : Link := { l with waiting := l.waiting.map fun r => { r with fresh := false } }

/-- The operand cache, its queued sweeps only older (R144). -/
def Cache.aged (k : Cache) : Cache := { k with queue := k.queue.map fun q => { q with fresh := false } }

/-- The part after a RegWrite that reached no register: Doze has ended, the Doze timer is 0, RegDone is the answer, and
nothing else differs (R158, R161, R162). -/
def State.acknowledged (s : State) : State := { s with device := s.device.touched, sent := [.regDone], place := [] }

/-- The part as a command begins: no message of it sent, and nothing numbered or posted at its place (log 5, log 6). -/
def State.fresh (s : State) : State := { s with sent := [], place := [] }

/-- Tag `t` is outstanding with generation bit `g`, for request `r`: a response that names both is matched (R156). -/
def State.Awaits (s : State) (t : TagId) (g : Bool) (r : Req) : Prop :=
  (s.link.tag t).state = .outstanding ∧ (s.link.tag t).gen = g ∧ (s.link.tag t).record.map (·.req) = some r

/-- The tag of an ended request: free, its generation bit and stale mark kept, no record (R156). -/
def Tag.freed (x : Tag) : Tag := { x with state := .free, record := none }

/-- The part once the request of tag `t` has ended with a matched response, before its owner hears of it (R156). -/
def State.ended (s : State) (t : TagId) : State :=
  { s.fresh with link := s.link.putTag t (s.link.tag t).freed }

/-- The tag of an expired request: its generation bit inverted, stale, free or retired (R156). -/
def Tag.expired (x : Tag) : Tag :=
  { state := if x.stale then .retired else .free, gen := !x.gen, stale := true, record := none }

/-- Channel `c` has given up the requests `mine` (R31, R96, R109): those that wait are withdrawn, and a line whose fill is
withdrawn loses its marker; those that hold a tag run to their end without an outcome; a beat of the channel is discarded,
and its pins are released.  Beat, link and cache of `v` differ in nothing else. -/
structure State.GaveUp (s v : State) (c : Chan) (mine : Req → Bool) : Prop where
  beat : v.beat = if s.granted c then none else s.beat
  waiting : v.link.waiting = s.link.waiting.filter fun r => !mine r
  tags : ∀ t, v.link.tag t = { s.link.tag t with record := (s.link.tag t).record.map fun x =>
    { x with req := { x.req with orphan := x.req.orphan || mine x.req } } }
  link : v.link = { s.link with tags := v.link.tags, waiting := v.link.waiting }
  lines : ∀ n, v.cache.line n = (s.cache.line n).map fun l => { l with
    fill := l.fill && !s.link.waiting.any fun r =>
      mine r && (r.kind == .fetchShared || r.kind == .fetchOwned) && r.address / 64 == n
    pinned := l.pinned && !(s.granted c && s.beat.any fun b => b.acqs.any fun q => q.line == n) }
  lru : ∀ i, (v.cache.set i).lru = (s.cache.set i).lru
  cache : v.cache = { s.cache with sets := v.cache.sets, queue := v.cache.queue }

/-! ### Commands that reset -/

/-- A word written to Device Control asks for a Soft Init or a Device Reset (R169, R176). -/
def wordResets (w : Word32) : Bool := w[6] || w[7]

end Sys2Proof.Machine

namespace Sys2Proof

/-- Commands that may reset the device: power-on, and the writes to Device Control that may ask for a reset (R169). -/
def Instr.mayResetDevice : Instr → Bool
  | .powerOnReset | .deviceReset _ | .softInit _ => true
  | .quiesce w | .quiesceRelease w | .dormant w | .wake w => Machine.wordResets w
  | .registerWrite offset w => offset == 0x008#12 && Machine.wordResets w
  | _ => false

/-- Commands that may reset channel `c`: Reset, and a write to its Channel Command register (R31). -/
def Instr.mayResetChannel (i : Instr) (c : Chan) : Bool :=
  match i with
  | .reset d => d == c
  | .registerWrite offset _ => offset == BitVec.ofNat 12 (0x804 + 0x100 * c.val)
  | _ => false

end Sys2Proof
end

