-- ==== Sys2Proof/Certificates/Slice0/Obligations.lean ====
section
/-! DEFINITION. The statements for the provers.  A statement about a command gives the whole next state as an equation:
the fields written in braces are those that change, and everything else of the state is as before.  Where the part may go
on of its own accord afterwards (log 6), the state of the equation is the one in which it starts to do so, under
`settleClose`; `CommandEnds` says how a command ends. -/
section Statements
open Sys2Proof Sys2Proof.Machine

/-! ### Steps -/

/-- A step runs the command at the front of the queue on the state with the queue's rest (R1). -/
def Obligations.StepRunsFrontCommand : Prop :=
  ∀ (s : State) (i : Instr) (rest : List Instr), s.pending = i :: rest → step s = exec i { s with pending := rest }

/-- Every command in every state is answered with a next state, and its effect leaves the queue of waiting commands
alone. -/
def Obligations.ExecLeavesTheQueue : Prop :=
  ∀ (i : Instr) (s : State), ∃ t, exec i s = .next t ∧ t.pending = s.pending

/-- How a command ends (R128, R131, R134, R155, R161; log 6): the numbers and events of its place are taken; then the
interrupt level is evaluated, its change is sent, the waiting requests and queued sweeps grow older (R144), and the Doze
timer is 0 unless the Doze condition holds; a part at rest does nothing else.  Before that, settling takes one action of the
part's own after another, at most 4096, each the first that can be taken in the order of log 6.  The oldest waiting fill,
WriteLine or bypass write, where neither the eviction buffer nor the cap of its channel holds it back, takes the lowest free
tag of its pool, those without a stale mark first (R143, R154, R155). -/
def Obligations.CommandEnds : Prop :=
  ∀ s : State,
    let u := s.numberPlace
    s.close = { u with
      device := if u.dozeCondition then s.device else { s.device with dozeTimer := 0 }
      engine := { u.engine with asserted := (s.engine.tail != s.engine.head && s.device.irqEnable) || s.engine.fatal }
      cache := u.cache.aged
      link := u.link.aged
      sent := u.sent ++ interruptMessages s.engine.asserted
        ((s.engine.tail != s.engine.head && s.device.irqEnable) || s.engine.fatal) } ∧
    (s.place = [] → u = s) ∧ (s.Rests → s.settleClose = s.close) ∧
    s.settleClose = (settleLoop 4096 s).close ∧ settleLoop 0 s = s ∧
    (∀ (n : Nat) (v : State), s.progress = some v → settleLoop (n + 1) s = settleLoop n v) ∧
    (∀ n : Nat, s.progress = none → settleLoop n s = s) ∧
    s.progress = (s.chanStep 0 <|> s.chanStep 1 <|> s.chanStep 2 <|> s.chanStep 3 <|> s.beatStep <|> s.serve <|>
      s.endCommandSweep <|> s.startSweep <|> s.softInitDone <|> s.quiescingDone <|> s.dormantNext) ∧
    ∀ (r : Req) (rest : List Req) (t : TagId), s.link.waiting = r :: rest →
      (r.kind = .fetchShared ∨ r.kind = .fetchOwned ∨ r.kind = .writeLine ∨ r.kind = .writePartial) →
      (match r.purpose with
        | .read _ _ | .prefetch | .acquire | .bypass _ _ | .writeBack => true
        | _ => false) = true →
      (r.kind = .writeLine ∨ ∀ e ∈ s.cache.evict, e.line ≠ r.address / 64) →
      (∀ c, r.purpose ≠ .writeBack → r.owner = .channel c → s.link.dataHeld c < 12) →
      let free (k : TagId) : Prop := (k.val < 28 ↔ r.purpose ≠ .writeBack) ∧ (s.link.tag k).state = .free
      free t → (∀ k, free k → (s.link.tag k).stale = false → (s.link.tag t).stale = false) →
      (∀ k, free k → (s.link.tag k).stale = (s.link.tag t).stale → t ≤ k) →
      s.serve = some { s with
        link := { s.link.putTag t { s.link.tag t with
            state := .outstanding
            record := some { req := { r with fresh := false }, timeout := s.link.responseTimeout, count := 0 } } with
          waiting := rest }
        sent := s.sent ++ [.request t (s.link.tag t).gen { r with fresh := false }] }

/-- A step on an empty queue is one tick of the timebase (R4, R157, R161; log 1, log 2): every outstanding request
whose timeout is not 0 counts one more tick, up to its timeout; the Doze timer counts while the Doze condition holds; a
count that reaches its end puts the command that carries it out into the queue, in ascending order of tag. -/
def Obligations.EmptyQueueTicks : Prop :=
  ∀ s : State, s.pending = [] →
    let counts (x : Tag) : Bool := match x.record with
      | some r => r.timeout != 0 && r.count < r.timeout
      | none => false
    let last (x : Tag) : Bool := match x.record with
      | some r => r.timeout != 0 && r.count + 1 == r.timeout
      | none => false
    let dozing := s.dozeCondition && s.device.dozeDelay != 0 && decide (s.device.dozeTimer < s.device.dozeDelay)
    ∃ u : State, step s = .next u.settleClose ∧
      (∀ t, u.link.tag t = if counts (s.link.tag t) then
          { s.link.tag t with record := (s.link.tag t).record.map fun r => { r with count := r.count + 1 } }
        else s.link.tag t) ∧
      u.link.waiting = s.link.waiting ∧ u.link.responseTimeout = s.link.responseTimeout ∧
      u.link.lateCount = s.link.lateCount ∧
      u.device = (if dozing then { s.device with dozeTimer := s.device.dozeTimer + 1 } else s.device) ∧
      u.pending = ((allTags.filter fun t => last (s.link.tag t)).map fun t => .responseTimeout t) ++
        (if dozing && s.device.dozeTimer + 1 == s.device.dozeDelay then [.doze] else []) ∧
      u.chans = s.chans ∧ u.cache = s.cache ∧ u.engine = s.engine ∧ u.beat = s.beat ∧ u.sent = [] ∧ u.place = [] ∧
      u.normalPtr = s.normalPtr ∧ u.expeditePtr = s.expeditePtr

/-! ### Invariants of every step, and rules of the whole part -/

/-- After a power-on reset (Tables 11-1, 12-1 and 12-2, R59, R135, R160, R176): what every register reads, and every
invariant below. -/
def Obligations.ResetState : Prop :=
  (∀ r : Reg, State.reset.readReg r = match r with
    | .id => 0x02400101
    | .capability => 0x6C264C44
    | .resetCause | .cacheControl => 1
    | .responseTimeout => 10000
    | .dozeDelay => 32
    | .acwMask => 0x000F7F7F
    | .chan _ .acw => 0x00007F00
    | .chan _ (.apertureLimit _ .low) => 0x00000FFF
    | _ => 0) ∧
  State.reset.engine.sequence = 1 ∧ State.reset.normalPtr = 3 ∧ State.reset.expeditePtr = 3 ∧ State.reset.pending = [] ∧
    State.reset.place = [] ∧ State.reset.SequenceNonzero ∧ State.reset.FifoBounded ∧ State.reset.AcwsLegal ∧ State.reset.LinksBounded ∧
    State.reset.DeferredBounded ∧ State.reset.EvictBounded ∧ State.reset.AperturesGranular

/-- No event ever carries sequence number 0 (R128): not the next one, none of the overflow FIFO, and none that a completion
record write has been given; and the overflow FIFO never holds more than eight events (R131). -/
def Obligations.StepKeepsEventEngine : Prop :=
  ∀ s t : State, s.SequenceNonzero ∧ s.FifoBounded → step s = .next t → t.SequenceNonzero ∧ t.FifoBounded

/-- No value with a 1 where the capability mask has a 0 ever reaches an ACW or its shadow (R60). -/
def Obligations.StepKeepsAcwsLegal : Prop :=
  ∀ s t : State, s.AcwsLegal → step s = .next t → t.AcwsLegal

/-- A link stack never holds more than four entries (R23, R24), a deferred command list never more than four commands
(R163), the eviction buffer never more than four entries (R143). -/
def Obligations.StepKeepsBounds : Prop :=
  ∀ s t : State, s.LinksBounded ∧ s.DeferredBounded ∧ s.EvictBounded → step s = .next t →
    t.LinksBounded ∧ t.DeferredBounded ∧ t.EvictBounded

/-- The low 12 bits of every aperture base stay 0, those of every limit stay 1 (R90). -/
def Obligations.StepKeepsAperturesGranular : Prop :=
  ∀ s t : State, s.AperturesGranular → step s = .next t → t.AperturesGranular

/-- After every step the interrupt level the host was last told is the level R134 defines; and every command but a
power-on reset sends exactly the message that its change of level asks for.  That the level is evaluated at the end of a
command is the model's choice (log 6). -/
def Obligations.InterruptLevelFollowsState : Prop :=
  ∀ s t : State, step s = .next t →
    t.engine.asserted = ((t.engine.tail != t.engine.head && t.device.irqEnable) || t.engine.fatal) ∧
    (s.pending.head? ≠ some .powerOnReset →
      t.sent.filter (fun m => m == .interruptAssert || m == .interruptDeassert) =
        interruptMessages s.engine.asserted t.engine.asserted)

/-- Only a Soft Init, a Device Reset and a power-on reset leave Fatal (R133): not a command of another kind, and not a
step with no command waiting. -/
def Obligations.FatalEndsOnlyByReset : Prop :=
  ∀ s t : State, s.engine.fatal = true →
    (∀ i : Instr, i.mayResetDevice = false → exec i s = .next t → t.engine.fatal = true) ∧
    ((∀ i, s.pending.head? = some i → i.mayResetDevice = false) → step s = .next t → t.engine.fatal = true)

/-- Only the resets leave Error (R109), and there the error cause and the fault record stay, over a command and over a
step with no command waiting; in states in which no deferred list holds a Reset, which is never deferred (R163). -/
def Obligations.ErrorEndsOnlyByReset : Prop :=
  ∀ (s t : State) (c : Chan), (s.ch c).state = .error → ChanCmd.reset ∉ (s.ch c).deferred →
    let stays : Prop := (t.ch c).state = .error ∧ (t.ch c).cause = (s.ch c).cause ∧ (t.ch c).fault = (s.ch c).fault
    (∀ i : Instr, i.mayResetDevice = false → i.mayResetChannel c = false → exec i s = .next t → stays) ∧
    ((∀ i, s.pending.head? = some i → i.mayResetDevice = false ∧ i.mayResetChannel c = false) → step s = .next t → stays)

/-- What the part does of its own accord never changes what the host has configured: no setting of the device, the
event queue, the cache, the link or a channel, and no waiting command. -/
def Obligations.SettleKeepsConfiguration : Prop :=
  ∀ s : State, let t := s.settle
    t.pending = s.pending ∧ t.device.quiesce = s.device.quiesce ∧ t.device.irqEnable = s.device.irqEnable ∧
    t.device.dozeDelay = s.device.dozeDelay ∧ t.device.cause = s.device.cause ∧
    t.link.responseTimeout = s.link.responseTimeout ∧ t.engine.base = s.engine.base ∧ t.engine.size = s.engine.size ∧
    t.engine.head = s.engine.head ∧ t.cache.prefetchOn = s.cache.prefetchOn ∧
    ∀ c, let h := s.ch c; let k := t.ch c
      k.compact = h.compact ∧ k.csbAddress = h.csbAddress ∧ k.apertures = h.apertures ∧
      k.normal.base = h.normal.base ∧ k.normal.size = h.normal.size ∧ k.normal.producer = h.normal.producer ∧
      k.expedite.base = h.expedite.base ∧ k.expedite.size = h.expedite.size ∧
      k.expedite.producer = h.expedite.producer

/-! ### Register writes -/

/-- The register map of Tables 12-1 and 12-2 (R175): every register is found at its own offset, a multiple of 4, so no two
registers share one.  Reads (R158, R168): an offset where no register lies reads 0; in Dormant and Waking every offset but
ID, Device Control and Device Status reads 0.  What each register reads in every state, the status words and the Fault
Record field by field (R176 to R180).  A read is a function of the state and no command (the model's choice, log 22). -/
def Obligations.RegisterMapAndReads : Prop :=
  (∀ r : Reg, Reg.ofOffset r.offset = some r ∧ r.offset.toNat % 4 = 0) ∧
  ∀ (s : State) (offset : BitVec 12),
    (Reg.ofOffset offset = none → s.readRegister offset = 0) ∧
    (s.asleep = true → offset ∉ [0x000#12, 0x008#12, 0x00C#12] → s.readRegister offset = 0) ∧
    (∀ r, Reg.ofOffset offset = some r → s.asleep = false ∨ offset ∈ [0x000#12, 0x008#12, 0x00C#12] →
      s.readRegister offset = s.readReg r) ∧
    let field (w : Word32) (place width : Nat) : Nat := w.toNat / 2 ^ place % 2 ^ width
    let bits (w : Word32) (places : List (Fin 32 × Bool)) : Prop := ∀ p ∈ places, w[p.1.val] = p.2
    let word (x : Word64) (half : Half) : Word32 := match half with
      | .low => x.extractLsb' 0 32
      | .high => x.extractLsb' 32 32
    let retired (data : Bool) : Nat :=
      (allTags.filter fun t => decide (t.val < 28) == data && (s.link.tag t).state == .retired).length
    let d := s.device
    let status := s.readReg .deviceStatus
    (s.readReg .id = 0x02400101 ∧ s.readReg .capability = 0x6C264C44 ∧ s.readReg .acwMask = 0x000F7F7F ∧
      s.readReg .deviceControl = BitVec.ofNat 32 (d.quiesce.toNat + 2 * d.irqEnable.toNat) ∧
      s.readReg .resetCause = (match d.cause with
        | .powerOn => 1
        | .deviceReset => 2
        | .softInit => 3) ∧
      s.readReg .responseTimeout = BitVec.ofNat 32 s.link.responseTimeout ∧
      s.readReg .dozeDelay = BitVec.ofNat 32 d.dozeDelay ∧
      s.readReg .cacheControl = BitVec.ofNat 32 s.cache.prefetchOn.toNat ∧
      (∀ half, s.readReg (.eventBase half) = word s.engine.base half) ∧
      s.readReg .eventSize = BitVec.ofNat 32 s.engine.size ∧ s.readReg .eventTail = BitVec.ofNat 32 s.engine.tail ∧
      s.readReg .eventHead = BitVec.ofNat 32 s.engine.head ∧ s.readReg .lostEvents = BitVec.ofNat 32 s.engine.lost ∧
      s.readReg .lateCount = BitVec.ofNat 32 s.link.lateCount ∧
      s.readReg .lostWriteBacks = BitVec.ofNat 32 s.cache.lostWriteBacks ∧
      s.readReg .prefetchFails = BitVec.ofNat 32 s.cache.prefetchFails) ∧
    (field status 0 3 = (match d.power with
        | .active => 0
        | .doze => 1
        | .quiescing => 2
        | .quiesced => if s.cache.sweep = none ∧ s.cache.evict = [] then 3 else 4
        | .dormantEntry => 5
        | .dormant => 6
        | .waking => 7) ∧
      bits status [(3, s.engine.fatal), (4, s.cache.flushDone), (8, d.partialWrite), (9, d.dormantAccess),
        (10, d.powerRejected), (11, d.eventConfigRejected), (12, d.eventHeadRejected)] ∧
      field status 16 5 = retired true ∧ field status 24 3 = retired false ∧
      field status 5 3 = 0 ∧ field status 13 3 = 0 ∧ field status 21 3 = 0 ∧ field status 27 5 = 0) ∧
    ∀ c : Chan,
      let h := s.ch c
      let f := h.fault
      let r (k : ChanReg) : Word32 := s.readReg (.chan c k)
      (r .control = BitVec.ofNat 32 ((h.state != .disabled).toNat + 2 * h.compact.toNat) ∧ r .command = 0 ∧ r .acw = h.acw ∧
        (∀ half, r (.ringBase half) = word h.normal.base half ∧ r (.expediteBase half) = word h.expedite.base half ∧
          r (.csbAddress half) = word h.csbAddress half) ∧
        r .ringSize = BitVec.ofNat 32 h.normal.size ∧ r .ringProducer = BitVec.ofNat 32 h.normal.producer ∧
        r .ringConsumer = BitVec.ofNat 32 h.normal.consumer ∧ r .expediteSize = BitVec.ofNat 32 h.expedite.size ∧
        r .expediteProducer = BitVec.ofNat 32 h.expedite.producer ∧
        r .expediteConsumer = BitVec.ofNat 32 h.expedite.consumer ∧ r .linkDepth = BitVec.ofNat 32 h.links.length ∧
        ∀ a : WayId, (∀ half, r (.apertureBase a half) = word (h.apertures[a.val]).base half ∧
            r (.apertureLimit a half) = word (h.apertures[a.val]).limit half) ∧
          r (.apertureControl a) = (h.apertures[a.val]).control.setWidth 32) ∧
      (field (r .status) 0 4 = (match h.state with
          | .disabled => 0
          | .idle => 1
          | .running => 2
          | .waiting => 3
          | .draining => 4
          | .faulted => 5
          | .saving => 6
          | .parked => 7
          | .expediting => 8
          | .restoring => 9
          | .error => 10) ∧
        bits (r .status) [(4, h.heldQuiesce), (5, h.heldFatal), (6, h.resetDraining), (7, h.pendingPark),
          (13, h.doorbellOut), (14, h.acwRejected)] ∧
        field (r .status) 8 5 = (match h.reason with
          | .none => 0
          | .unknownCommand => 1
          | .configWrongState => 2
          | .ringSizeInvalid => 3
          | .ringBaseMisaligned => 4
          | .csbMisaligned => 5
          | .producerOutOfRange => 6
          | .producerBehindFetch => 7
          | .alreadyEnabled => 8
          | .resetInProgress => 9
          | .ringNotConfigured => 10
          | .disableWrongState => 11
          | .acwWrongState => 12
          | .acwReservedBit => 13
          | .notFaulted => 14
          | .resumeNotAllowed => 15
          | .parkWrongState => 16
          | .alreadyParked => 17
          | .noCsb => 18
          | .unparkWrongState => 19
          | .channelInError => 20
          | .deviceFatal => 21
          | .deferredFull => 22
          | .parkPending => 23) ∧
        field (r .status) 16 4 = (match h.cause with
          | .none => 0
          | .completionWriteFailed => 1
          | .csbWriteFailed => 2
          | .csbReadFailed => 3
          | .badSignature => 4
          | .reservedFieldSet => 5
          | .ringPositionMismatch => 6
          | .linkStackInvalid => 7
          | .descriptorStateInvalid => 8
          | .restartChoiceIllegal => 9
          | .acwInvalid => 10) ∧
        field (r .status) 15 1 = 0 ∧ field (r .status) 20 12 = 0) ∧
      (bits (r (.faultWord 0)) [(0, f.valid)] ∧
        field (r (.faultWord 0)) 1 2 = (match f.ring with
          | .none => 0
          | .normal => 1
          | .list => 2
          | .expedite => 3) ∧
        field (r (.faultWord 0)) 4 4 = (match f.kind with
          | .none => 0
          | .arithmetic => 1
          | .address => 2
          | .memory => 3
          | .descriptor => 4
          | .descriptorFetch => 5
          | .link => 6
          | .control => 7) ∧
        field (r (.faultWord 0)) 8 4 = (match f.sub with
          | .none => 0
          | .overflow => 1
          | .misaligned => 2
          | .aperture => 3
          | .memoryError => 4
          | .decodeError => 5
          | .timeout => 6
          | .underflow => 7) ∧
        field (r (.faultWord 0)) 12 3 = (match f.phase with
          | .none => 0
          | .pre => 1
          | .post => 2
          | .access => 3
          | .commit => 4) ∧
        field (r (.faultWord 0)) 16 3 = (match f.stream with
          | .none => 0
          | .a => 1
          | .b => 2
          | .c => 3
          | .d => 4
          | .index => 5) ∧
        field (r (.faultWord 0)) 24 7 = f.conds.toNat ∧
        field (r (.faultWord 0)) 3 1 = 0 ∧ field (r (.faultWord 0)) 15 1 = 0 ∧ field (r (.faultWord 0)) 19 5 = 0 ∧
        field (r (.faultWord 0)) 31 1 = 0 ∧
        r (.faultWord 1) = f.lanes ∧ r (.faultWord 2) = BitVec.ofNat 32 f.beat ∧
        r (.faultWord 3) = word f.location .low ∧ r (.faultWord 4) = word f.location .high ∧
        r (.faultWord 5) = word f.address .low ∧ r (.faultWord 6) = word f.address .high)

/-- RING_SIZE and EXPEDITE_SIZE (R7). -/
def Obligations.RingSizeWrites : Prop :=
  ∀ (s : State) (c : Chan) (v : Word32), s.asleep = false →
    let h := s.ch c
    exec (.ringSize c v) s = .next (State.close (s.acknowledged.setCh c
      (if h.state ≠ .disabled then { h with reason := .configWrongState }
       else if v.toNat ∉ [0, 16, 32, 64, 128, 256, 512, 1024, 2048, 4096] then { h with reason := .ringSizeInvalid }
       else { h with
         normal := { base := h.normal.base, size := v.toNat, producer := 0, consumer := 0, fetch := 0 }
         links := [], listPos := none }))) ∧
    exec (.expediteSize c v) s = .next (State.close (s.acknowledged.setCh c
      (if h.state ≠ .disabled then { h with reason := .configWrongState }
       else if v.toNat ∉ [0, 4, 8, 16, 32, 64] then { h with reason := .ringSizeInvalid }
       else { h with
         expedite := { base := h.expedite.base, size := v.toNat, producer := 0, consumer := 0, fetch := 0 } })))

/-- RING_BASE and EXPEDITE_BASE (R7, R88): in compact addressing mode the high words stay as they are. -/
def Obligations.RingBaseWrites : Prop :=
  ∀ (s : State) (c : Chan) (half : Half) (v : Word32), s.asleep = false →
    let h := s.ch c
    let written (x : Word64) : Word64 :=
      match half with
      | .low => x.extractLsb' 32 32 ++ v
      | .high => if h.compact then x else v ++ x.extractLsb' 0 32
    let answer (h' : Channel) : Host.Outcome State Fault Refusal := .next (State.close (s.acknowledged.setCh c
      (if h.state ≠ .disabled then { h with reason := .configWrongState }
       else if half = .low ∧ v.toNat % 4096 ≠ 0 then { h with reason := .ringBaseMisaligned }
       else h')))
    exec (.ringBase c half v) s = answer { h with normal := { h.normal with base := written h.normal.base } } ∧
    exec (.expediteBase c half v) s = answer { h with expedite := { h.expedite with base := written h.expedite.base } }

/-- CSB_ADDRESS (R88, R110).  That 0 is accepted in Idle also where a park is claimed there is the model's choice (log 46).
-/
def Obligations.CsbAddressWrites : Prop :=
  ∀ (s : State) (c : Chan) (half : Half) (v : Word32), s.asleep = false →
    let h := s.ch c
    let written : Word64 :=
      match half with
      | .low => h.csbAddress.extractLsb' 32 32 ++ v
      | .high => if h.compact then h.csbAddress else v ++ h.csbAddress.extractLsb' 0 32
    exec (.csbAddress c half v) s = .next (State.close (s.acknowledged.setCh c
      (if h.state ≠ .disabled ∧ h.state ≠ .idle ∧ h.state ≠ .parked then { h with reason := .configWrongState }
       else if half = .low ∧ v.toNat % 512 ≠ 0 then { h with reason := .csbMisaligned }
       else if h.state = .parked ∧ written = 0 then { h with reason := .configWrongState }
       else { h with csbAddress := written })))

/-- COMPACT (R88, R178; log 31): entering compact addressing mode clears the high word of every address register of the
channel; leaving it restores nothing; a write that changes nothing is accepted in every state. -/
def Obligations.CompactWrites : Prop :=
  ∀ (s : State) (c : Chan) (on : Bool), s.asleep = false →
    let h := s.ch c
    let low (x : Word64) : Word64 := (x.extractLsb' 0 32).setWidth 64
    ∃ h' : Channel, exec (.compact c on) s = .next (State.close (s.acknowledged.setCh c h')) ∧
      (on = h.compact → h' = h) ∧
      (on ≠ h.compact → h.state ≠ .disabled → h' = { h with reason := .configWrongState }) ∧
      (on ≠ h.compact → h.state = .disabled → on = false → h' = { h with compact := false }) ∧
      (on ≠ h.compact → h.state = .disabled → on = true →
        (∀ a : WayId, (h'.apertures[a.val]).base = low (h.apertures[a.val]).base ∧
          (h'.apertures[a.val]).limit = low (h.apertures[a.val]).limit ∧
          (h'.apertures[a.val]).control = (h.apertures[a.val]).control) ∧
        h' = { h with
          compact := true, normal := { h.normal with base := low h.normal.base }
          expedite := { h.expedite with base := low h.expedite.base }, csbAddress := low h.csbAddress
          apertures := h'.apertures })

/-- APERTURE_BASE, APERTURE_LIMIT and APERTURE_CONTROL (R88, R90): in Disabled only, in granules of 4 KiB. -/
def Obligations.ApertureWrites : Prop :=
  ∀ (s : State) (c : Chan) (a : WayId) (half : Half) (v : Word32), s.asleep = false →
    let h := s.ch c
    let x := h.apertures[a.val]
    let written (old : Word64) (low : Word32) : Word64 :=
      match half with
      | .low => old.extractLsb' 32 32 ++ low
      | .high => if h.compact then old else v ++ old.extractLsb' 0 32
    let answer (y : Aperture) : Host.Outcome State Fault Refusal := .next (State.close (s.acknowledged.setCh c
      (if h.state ≠ .disabled then { h with reason := .configWrongState }
       else { h with apertures := h.apertures.set a.val y })))
    exec (.apertureBase c a half v) s =
      answer { x with base := written x.base (BitVec.ofNat 32 (v.toNat / 4096 * 4096)) } ∧
    exec (.apertureLimit c a half v) s =
      answer { x with limit := written x.limit (BitVec.ofNat 32 (v.toNat / 4096 * 4096 + 4095)) } ∧
    exec (.apertureControl c a v) s = answer { x with control := v.extractLsb' 0 3 }

/-- ACW (R61). -/
def Obligations.AcwWrites : Prop :=
  ∀ (s : State) (c : Chan) (v : Word32), s.asleep = false →
    let h := s.ch c
    exec (.acw c v) s = .next (State.close (s.acknowledged.setCh c
      (if h.state ∉ [.disabled, .idle, .faulted, .parked] then
         { h with reason := .acwWrongState, acwRejected := true }
       else if ∃ i : Fin 32, v[i.val] = true ∧ (0x000F7F7F#32)[i.val] = false then
         { h with reason := .acwReservedBit, acwRejected := true }
       else { h with acw := v })))

/-- CHANNEL_STATUS and DEVICE_STATUS (R177, R179): a 1 written to a sticky indication clears it and nothing else.
LOST_EVENTS, LATE_RESPONSE_COUNT, LOST_WRITE_BACK_COUNT and SIBLING_PREFETCH_FAIL_COUNT (R131, R140, R143, R157): a
write of any value clears the counter and nothing else. -/
def Obligations.StatusAndCounterWrites : Prop :=
  ∀ (s : State) (c : Chan) (v : Word32), s.asleep = false →
    let h := s.ch c
    let d := s.device.touched
    let u := s.acknowledged
    exec (.channelStatus c v) s = .next (State.close (u.setCh c
      { h with doorbellOut := h.doorbellOut && !v[13], acwRejected := h.acwRejected && !v[14] })) ∧
    exec (.deviceStatus v) s = .next (State.close { u with
      device := { d with
        partialWrite := d.partialWrite && !v[8], dormantAccess := d.dormantAccess && !v[9]
        powerRejected := d.powerRejected && !v[10], eventConfigRejected := d.eventConfigRejected && !v[11]
        eventHeadRejected := d.eventHeadRejected && !v[12] } }) ∧
    exec (.lostEvents v) s = .next (State.close { u with engine := { s.engine with lost := 0 } }) ∧
    exec (.lateResponseCount v) s = .next (State.close { u with link := { s.link with lateCount := 0 } }) ∧
    exec (.lostWriteBackCount v) s = .next (State.close { u with cache := { s.cache with lostWriteBacks := 0 } }) ∧
    exec (.siblingPrefetchFailCount v) s = .next (State.close { u with cache := { s.cache with prefetchFails := 0 } })

/-- RING_PRODUCER and EXPEDITE_PRODUCER (R8, R120): the two checks in their order, in every channel state.  An accepted
expedite doorbell that leaves untaken entries claims an automatic park in Running and Waiting, where the channel has a
context save block and no park is claimed yet.  That a held channel claims none but latches the doorbell is read from R6,
R133 and R163 (log 38); that a channel which a hold has not reached yet claims one is the model's choice (log 52). -/
def Obligations.Doorbells : Prop :=
  ∀ (s : State) (c : Chan) (v : Word32), s.asleep = false →
    let h := s.ch c
    let refused (r : Ring) (accepted : Channel) : Channel :=
      if r.size ≤ v.toNat then { h with reason := .producerOutOfRange, doorbellOut := true }
      else if ((v.toNat : Int) - r.consumer) % r.size < ((r.fetch : Int) - r.consumer) % r.size then
        { h with reason := .producerBehindFetch, doorbellOut := true }
      else accepted
    exec (.ringProducer c v) s = .next (State.settleClose (s.acknowledged.setCh c
      (refused h.normal { h with normal := { h.normal with producer := v.toNat } }))) ∧
    exec (.expediteProducer c v) s = .next (State.settleClose (s.acknowledged.setCh c
      (refused h.expedite
        (if (h.state = .running ∨ h.state = .waiting) ∧ h.claim = none ∧ v.toNat ≠ h.expedite.fetch ∧
            h.csbAddress ≠ 0 ∧ h.heldQuiesce = false ∧ h.heldFatal = false then
          { h with expedite := { h.expedite with producer := v.toNat }, claim := some .automatic }
        else { h with expedite := { h.expedite with producer := v.toNat } }))))

/-- EVENT_QUEUE_SIZE with a value other than 0, and EVENT_QUEUE_BASE (R129). -/
def Obligations.EventQueueWrites : Prop :=
  ∀ (s : State) (half : Half) (v : Word32), s.asleep = false →
    let e := s.engine
    let rejected : State :=
      { s.acknowledged with device := { s.device.touched with eventConfigRejected := true } }
    (v ≠ 0 → exec (.eventQueueSize v) s = .next (State.settleClose
      (if e.size = 0 ∧ v.toNat ∈ [64, 128, 256, 512, 1024, 2048, 4096] then
         { s.acknowledged with engine := { e with size := v.toNat, tail := 0, head := 0 } }
       else rejected))) ∧
    exec (.eventQueueBase half v) s = .next (State.close
      (if e.size ≠ 0 ∨ (half = .low ∧ v.toNat % 4096 ≠ 0) then rejected
       else { s.acknowledged with
         engine := { e with base := match half with
           | .low => e.base.extractLsb' 32 32 ++ v
           | .high => v ++ e.base.extractLsb' 0 32 } }))

/-- EVENT_QUEUE_SIZE with value 0 (R129): the queue is disabled; every event of the FIFO is counted as lost; an event
record write in flight runs to its end without effect on the indices; one that has no tag yet is withdrawn,
on which R129 is silent: the model's choice (log 55). -/
def Obligations.EventQueueDisable : Prop :=
  ∀ s : State, s.asleep = false →
    ∃ u : State, exec (.eventQueueSize 0) s = .next u.settleClose ∧
      u.engine = { s.engine with
        size := 0, tail := 0, head := 0, lost := min (s.engine.lost + s.engine.fifo.length) 65535, fifo := []
        lossMark := none } ∧
      u.link.waiting = s.link.waiting.filter (fun r => r.owner != .engine) ∧
      (∀ t, u.link.tag t = { s.link.tag t with record := (s.link.tag t).record.map fun r => { r with
        req := { r.req with purpose := if r.req.purpose = .event true then .event false else r.req.purpose } } }) ∧
      u.link.responseTimeout = s.link.responseTimeout ∧ u.link.lateCount = s.link.lateCount ∧
      u = { s.acknowledged with engine := u.engine, link := u.link }

/-- EVENT_HEAD (R130): V < N and (V - Head) mod N at most (Tail - Head) mod N.  That V is the whole value of 32 bits, so that
one with a bit above bit 11 is rejected although R175 ignores reserved bits, is the model's choice (log 57). -/
def Obligations.EventHeadWrites : Prop :=
  ∀ (s : State) (v : Word32), s.asleep = false →
    let e := s.engine
    exec (.eventHead v) s = .next (State.close
      (if v.toNat < e.size ∧ ((v.toNat : Int) - e.head) % e.size ≤ ((e.tail : Int) - e.head) % e.size then
         { s.acknowledged with engine := { e with head := v.toNat } }
       else { s.acknowledged with device := { s.device.touched with eventHeadRejected := true } }))

/-- PARTIAL_REGISTER_WRITE (R158): in every power state and for every offset, the sticky indication and nothing else; that
a row with all four enables set acts so too is the model's choice (log 23). REGISTER_WRITE (R157, R158, R161, R175, R176,
R178): an offset where no register lies, a read-only register, and the two registers that no other row writes; at the
offset of any other register, a Channel Command code and a Device Control or Cache Control word among them, the effect of
the row that writes it; which word a row writes that stands for one bit of a register is the model's choice (log 31).  The
part then goes on of its own accord, which it does after some rows only (log 6). -/
def Obligations.GeneralRegisterWrites : Prop :=
  ∀ (s : State) (offset : BitVec 12) (enables : BitVec 4) (v : Word32),
    exec (.partialRegisterWrite offset enables v) s =
      .next (State.close { s.acknowledged with device := { s.device.touched with partialWrite := true } }) ∧
    (s.asleep = false →
      (Reg.ofOffset offset = none → exec (.registerWrite offset v) s = .next s.acknowledged.settleClose) ∧
      (∀ c : Chan, ∀ i : Fin 7, ∀ r ∈ ([.id, .capability, .resetCause, .acwMask, .eventTail, .chan c .ringConsumer,
          .chan c .expediteConsumer, .chan c .linkDepth, .chan c (.faultWord i)] : List Reg),
        exec (.registerWrite r.offset v) s = .next s.acknowledged.settleClose) ∧
      exec (.registerWrite 0x014#12 v) s = .next (State.settleClose
        { s.acknowledged with link := { s.link with responseTimeout := v.toNat % 65536 } }) ∧
      exec (.registerWrite 0x018#12 v) s = .next (State.settleClose
        { s.acknowledged with device := { s.device.touched with dozeDelay := v.toNat % 65536 } })) ∧
    ∀ (c : Chan) (a : WayId),
      let at_ (o : Nat) : BitVec 12 := BitVec.ofNat 12 (0x800 + 0x100 * c.val + o)
      let is (offset : BitVec 12) (value : Word32) (i : Instr) : Prop := exec (.registerWrite offset value) s = exec i s
      let goesOn (offset : BitVec 12) (i : Instr) : Prop :=
        ∃ u : State, exec i s = .next u.close ∧ exec (.registerWrite offset v) s = .next u.settleClose
      (is (at_ 0x1C) v (.ringProducer c v) ∧ is (at_ 0x30) v (.expediteProducer c v) ∧
        is 0x038#12 v (.eventQueueSize v)) ∧
      (∀ p ∈ ([(1, .enable c), (2, .disable c), (3, .reset c), (4, .park c), (5, .unpark c), (6, .resumeRetry c),
          (7, .resumeSkip c), (8, .resumeSubstitute c), (9, .resumeAbandon c)] : List (Word32 × Instr)),
        is (at_ 0x04) p.1 p.2) ∧
      ((v[7] = true → is 0x008#12 v (.deviceReset v)) ∧ (v[6] = true → is 0x008#12 v (.softInit v)) ∧
        (v[5] = true → is 0x008#12 v (.wake v)) ∧ (v[4] = true → is 0x008#12 v (.dormant v)) ∧
        (v[0] = true → is 0x008#12 v (.quiesce v)) ∧ (v[0] = false → is 0x008#12 v (.quiesceRelease v)) ∧
        (v[0] = s.device.quiesce → v[4] = false → v[5] = false → v[6] = false → v[7] = false →
          goesOn 0x008#12 (.interruptEnable v[1]))) ∧
      ((v[1] = true → is 0x01C#12 v (.flushAndInvalidate v[0])) ∧
        (v[1] = false → goesOn 0x01C#12 (.siblingPrefetchEnable v[0]))) ∧
      (∀ p ∈ ([(at_ 0x00, .compact c v[1]), (at_ 0x08, .channelStatus c v), (at_ 0x0C, .acw c v),
          (at_ 0x10, .ringBase c .low v), (at_ 0x14, .ringBase c .high v), (at_ 0x18, .ringSize c v),
          (at_ 0x24, .expediteBase c .low v), (at_ 0x28, .expediteBase c .high v), (at_ 0x2C, .expediteSize c v),
          (at_ 0x38, .csbAddress c .low v), (at_ 0x3C, .csbAddress c .high v),
          (at_ (0x80 + 0x20 * a.val), .apertureBase c a .low v), (at_ (0x84 + 0x20 * a.val), .apertureBase c a .high v),
          (at_ (0x88 + 0x20 * a.val), .apertureLimit c a .low v), (at_ (0x8C + 0x20 * a.val), .apertureLimit c a .high v),
          (at_ (0x90 + 0x20 * a.val), .apertureControl c a v), (0x00C#12, .deviceStatus v),
          (0x030#12, .eventQueueBase .low v), (0x034#12, .eventQueueBase .high v), (0x040#12, .eventHead v),
          (0x044#12, .lostEvents v), (0x050#12, .lateResponseCount v), (0x054#12, .lostWriteBackCount v),
          (0x058#12, .siblingPrefetchFailCount v)] : List (BitVec 12 × Instr)), goesOn p.1 p.2)

/-- In Dormant and in Waking every write but one to Device Control is dropped, whatever its value, and sets the sticky
dormant-access indication (R168). -/
def Obligations.DormantDropsWrites : Prop :=
  ∀ (s : State) (c : Chan) (a : WayId) (half : Half) (on : Bool) (offset : BitVec 12) (v : Word32), s.asleep = true →
    let u : State := { s.acknowledged with device := { s.device.touched with dormantAccess := true } }
    (∀ i ∈ ([.ringSize c v, .expediteSize c v, .ringBase c half v, .expediteBase c half v, .compact c on,
        .csbAddress c half v, .apertureBase c a half v, .apertureLimit c a half v, .apertureControl c a v, .acw c v,
        .channelStatus c v, .eventQueueBase half v, .eventHead v, .lostEvents v, .lateResponseCount v,
        .lostWriteBackCount v, .siblingPrefetchFailCount v, .deviceStatus v, .siblingPrefetchEnable on] : List Instr),
      exec i s = .next u.close) ∧
    (∀ i ∈ ([.ringProducer c v, .expediteProducer c v, .eventQueueSize v, .flushAndInvalidate on, .enable c, .disable c,
        .reset c, .park c, .unpark c, .resumeRetry c, .resumeSkip c, .resumeSubstitute c,
        .resumeAbandon c] : List Instr),
      exec i s = .next u.settleClose) ∧
    (offset ≠ 0x008#12 → exec (.registerWrite offset v) s = .next u.settleClose)

/-- INTERRUPT_ENABLE and SIBLING_PREFETCH_ENABLE (R134, R140, R160, R176; log 31): the bit written and nothing else.
FLUSH_AND_INVALIDATE (R146, R176; log 31): accepted in Active (Doze ends first) and Quiesced, where it clears flush done
and queues one request unless one is queued, running, or ended with its write-backs still to leave (log 21); rejected in
the other power states. -/
def Obligations.EnablesAndFlush : Prop :=
  ∀ (s : State) (on : Bool),
    let k := s.cache
    exec (.interruptEnable on) s =
      .next (State.close { s.acknowledged with device := { s.device.touched with irqEnable := on } }) ∧
    (s.asleep = false →
      exec (.siblingPrefetchEnable on) s =
        .next (State.close { s.acknowledged with cache := { k with prefetchOn := on } }) ∧
      exec (.flushAndInvalidate on) s = .next (State.settleClose
        (if s.device.power = .active ∨ s.device.power = .doze ∨ s.device.power = .quiesced then
           { s.acknowledged with
             cache := { k with
               flushDone := false, prefetchOn := on
               queue :=
                 if (∃ q ∈ k.queue, q.kind = .command) ∨ k.commandSweeps ≠ [] then k.queue
                 else k.queue ++ [{ kind := .command, fresh := true }] } }
         else { s.acknowledged with device := { s.device.touched with powerRejected := true } })))

/-! ### Power requests and resets -/

/-- QUIESCE (R160, R163): accepted in Active, and in Doze, which ends first.  A write that changes no level bit but
Interrupt Enable and sets no action bit is accepted in every power state.  Quiescing ends, with a Quiesce Ack, as soon as the
conditions of R164 hold.  The word this row writes is the model's choice (log 31). -/
def Obligations.QuiesceRequest : Prop :=
  (∀ s : State,
    let still : Prop := (∀ c, (s.ch c).progressOwed = false ∧ ((s.ch c).state ∈ [.disabled, .idle, .parked, .faulted, .error] ∨
        (s.ch c).state ∈ [.running, .waiting, .draining, .expediting] ∧
          ((s.ch c).heldQuiesce = true ∨ (s.ch c).heldFatal = true))) ∧
      s.beat = none ∧ s.link.outstanding = [] ∧ s.link.waiting = [] ∧ s.cache.evict = [] ∧ s.cache.sweep = none ∧
      s.cache.queue = []
    (s.device.power = .quiescing → still → s.quiescingDone = some { s with
      device := { s.device with power := .quiesced }
      place := s.place ++ [.post { kind := .quiesceAck, channel := none, ring := .none, auto := false, sequence := 0
                                   status := 0, location := 0, detail := 0 }] }) ∧
    (s.device.power ≠ .quiescing ∨ ¬ still → s.quiescingDone = none)) ∧
  ∀ (s : State) (w : Word32), w[4] = false → w[5] = false → w[6] = false → w[7] = false →
    (s.device.quiesce = false → s.device.power = .active ∨ s.device.power = .doze →
      exec (.quiesce w) s = .next (State.settleClose { s.acknowledged with
        device := { s.device.touched with quiesce := true, irqEnable := w[1], power := .quiescing } })) ∧
    (s.device.quiesce = true →
      exec (.quiesce w) s = .next (State.settleClose { s.acknowledged with
        device := { s.device.touched with irqEnable := w[1] } }))

/-- QUIESCE_RELEASE (R120, R164, R165; log 35): the power state becomes Active, the progress-owed set is formed, the hold
ends, the deferred commands of channels 0 to 3 are judged, each list in its order, and then each channel acts on a latched
expedite doorbell.  That a command behind a deferred Enable of its channel is judged in Idle, before the channel evaluates
its work, is the model's choice (log 62), and so is the word this row writes (log 31). -/
def Obligations.QuiesceRelease : Prop :=
  ∀ (s : State) (w : Word32), w[4] = false → w[5] = false → w[6] = false → w[7] = false →
    s.device.quiesce = true → s.device.power = .quiescing ∨ s.device.power = .quiesced →
    let owed (h : Channel) : Bool := h.heldQuiesce && (h.state ∈ [.running, .draining, .expediting]) &&
      (h.phase == .job || h.phase == .ready) &&
      match h.current with
      | some x => descKind x.image == some .operation && x.beat < descBeats x.image
      | none => false
    let latched (h : Channel) : Channel :=
      if (h.state = .running ∨ h.state = .waiting) ∧ h.claim = none ∧ h.expedite.producer ≠ h.expedite.fetch ∧
          h.csbAddress ≠ 0 then { h with claim := some .automatic }
      else h
    ∃ v : State,
      (∀ d, v.ch d = { s.ch d with
        progressOwed := (s.ch d).progressOwed || owed (s.ch d), heldQuiesce := false, deferred := [] }) ∧
      v = { s.fresh with
        device := { s.device.touched with irqEnable := w[1], quiesce := false, power := .active }, chans := v.chans } ∧
      let judged : State := ([0, 1, 2, 3] : List Chan).foldl
        (fun u c => (s.ch c).deferred.foldl (fun u cmd => u.judge c cmd) u) v
      exec (.quiesceRelease w) s = .next (State.settleClose (State.send
        (([0, 1, 2, 3] : List Chan).foldl (fun u c => u.modCh c latched) judged) .regDone))

/-- DORMANT, WAKE and WAKE_COMPLETE (R160, R167, R168; log 27); the words the first two write are the model's choice
(log 31). -/
def Obligations.DormantAndWake : Prop :=
  ∀ (s : State) (w : Word32), w[6] = false → w[7] = false →
    let d := s.device
    (w[5] = false → w[0] = d.quiesce → d.power = .quiesced → s.engine.fatal = false →
      exec (.dormant w) s = .next (State.settleClose { s.acknowledged with
        device := { d.touched with irqEnable := w[1], power := .dormantEntry, dormantStep := .waiting } })) ∧
    (w[4] = false → w[0] = d.quiesce → d.power = .dormant →
      exec (.wake w) s = .next (State.settleClose { s.acknowledged with
        device := { d.touched with irqEnable := w[1], power := .waking } })) ∧
    (d.power = .waking →
      exec .wakeComplete s = .next (State.settleClose { s.fresh with
        device := { d with power := .quiesced }
        place := [.post { kind := .wakeAck, channel := none, ring := .none, auto := false, sequence := 0, status := 0
                          location := 0, detail := 0 }] })) ∧
    (d.power ≠ .waking → exec .wakeComplete s = .next (State.close s.fresh))

/-- A write to Device Control that the table of R160 does not accept changes nothing, Interrupt Enable included, and sets
the sticky power-request-rejected indication. -/
def Obligations.PowerRequestRejected : Prop :=
  ∀ (s : State) (w : Word32), w[7] = false →
    let p := s.device.power
    let changes := w[0] ≠ s.device.quiesce
    (w[4] = true ∧ w[5] = true) ∨ (w[4] = true ∧ w[6] = true) ∨ (w[5] = true ∧ w[6] = true) ∨
      (changes ∧ (w[4] = true ∨ w[5] = true)) ∨
      (w[6] = true ∧ (p = .dormant ∨ p = .waking)) ∨
      (w[4] = true ∧ (p ≠ .quiesced ∨ s.engine.fatal = true)) ∨
      (w[5] = true ∧ p ≠ .dormant) ∨
      (w[6] = false ∧ changes ∧ w[0] = true ∧ p ≠ .active ∧ p ≠ .doze) ∨
      (w[6] = false ∧ changes ∧ w[0] = false ∧ p ≠ .quiescing ∧ p ≠ .quiesced) →
    exec (.registerWrite 0x008#12 w) s = .next (State.settleClose
      { s.acknowledged with device := { s.device.touched with powerRejected := true } })

/-- SOFT_INIT (R135, R159, R160, R171, R172, Table 11-1): its acceptance, and a further one while one drains (log 40).
Every request is kept, but for the writes of a context save block that wait for their tags, which go (R113); those of the
channels and of the event engine have no outcome for them; a record write that waits for its tag gets its record now (the
model's choice, log 13).  Every line is kept, and the pins of the beat are released.  The word this
row writes is the model's choice (log 31). -/
def Obligations.SoftInit : Prop :=
  ∀ (s : State) (w : Word32), w[4] = false → w[5] = false → w[7] = false → s.asleep = false →
    let d := s.device
    let noOutcome (r : Req) : Bool :=
      match r.owner with
      | .channel _ => r.purpose != .prefetch
      | .engine => true
      | .cache => false
    let withRecord (r : Req) : Req :=
      match r.purpose, r.owner with
      | .record _, .channel c =>
        match (s.ch c).current, (s.ch c).phase with
        | some x, .completing status false =>
          if r.orphan then r
          else { r with
            bytes := recordBytes status x 0 <<< (8 * r.firstOffset)
            purpose := .record (if bitsAt (bytesAt x.image 0 4) 4 1 = 1 then
              some { kind := .jobComplete, channel := some c, ring := x.ring, auto := false, sequence := 0
                     status := BitVec.ofNat 16 status.code, location := x.location
                     detail := BitVec.ofNat 64 (descCompletion (s.ch c).compact x.image) }
              else none) }
        | _, _ => r
      | .event _, _ =>
        match s.engine.fifo, s.engine.lossMark with
        | v :: _, _ => { r with bytes := v.bytes <<< (8 * r.firstOffset) }
        | [], some n =>
          { r with bytes := (Event.bytes
            { kind := .eventsLost, channel := none, ring := .none, auto := false, sequence := s.engine.sequence
              status := 0, location := 0, detail := BitVec.ofNat 64 n }) <<< (8 * r.firstOffset) }
        | [], none => r
      | _, _ => r
    ∃ u : State, exec (.softInit w) s = .next u.settleClose ∧
      (d.softInit = false →
        u.device = { power := .active, quiesce := false, irqEnable := d.irqEnable, dozeDelay := d.dozeDelay, dozeTimer := 0
                     dormantStep := .none, softInit := true, cause := .softInit, partialWrite := false
                     dormantAccess := false, powerRejected := false, eventConfigRejected := false
                     eventHeadRejected := false } ∧
        (∀ c, u.ch c = { Channel.reset with
          compact := (s.ch c).compact, acw := (s.ch c).acw, csbAddress := (s.ch c).csbAddress
          apertures := (s.ch c).apertures, resetDraining := true
          normal := { base := (s.ch c).normal.base, size := (s.ch c).normal.size, producer := 0, consumer := 0, fetch := 0 }
          expedite := { base := (s.ch c).expedite.base, size := (s.ch c).expedite.size, producer := 0, consumer := 0
                        fetch := 0 } }) ∧
        u.engine = { Engine.reset with base := s.engine.base, size := s.engine.size, asserted := s.engine.asserted } ∧
        u.normalPtr = 3 ∧ u.expeditePtr = 3 ∧ u.beat = none ∧
        u.cache = { s.cache with
          sets := u.cache.sets, queue := [], flushDone := false, lostWriteBacks := 0, prefetchFails := 0 } ∧
        (∀ n, u.cache.line n = (s.cache.line n).map fun l =>
          { l with pinned := l.pinned && !s.beat.any fun b => b.acqs.any fun q => q.line == n }) ∧
        (∀ i, (u.cache.set i).lru = (s.cache.set i).lru) ∧
        (∀ t, u.link.tag t = { s.link.tag t with record := (s.link.tag t).record.map fun x =>
          { x with req := { x.req with orphan := x.req.orphan || noOutcome x.req } } }) ∧
        u.link.waiting = (s.link.waiting.filter fun r => r.purpose != .csbSave).map (fun r =>
          { withRecord r with orphan := r.orphan || noOutcome r }) ∧
        u.link.responseTimeout = s.link.responseTimeout ∧ u.link.lateCount = s.link.lateCount ∧
        u.sent = [.regDone] ∧ u.place = [] ∧ u.pending = s.pending) ∧
      (d.softInit = true →
        u = { s.acknowledged with
          device := { d.touched with power := .active, quiesce := false, dormantStep := .none }, chans := u.chans } ∧
        ∀ c, u.ch c = { s.ch c with heldQuiesce := false, progressOwed := false, deferred := [] })

/-- DEVICE_RESET (R135, R159, R160, R170, Table 11-1), in every power state, and POWER_ON_RESET: every item at its reset
value; a Device Reset ends every outstanding request as if its timeout had expired, and keeps the interrupt level until
it is evaluated (R134).  The word DEVICE_RESET writes is the model's choice (log 31). -/
def Obligations.DeviceAndPowerOnReset : Prop :=
  ∀ (s : State) (w : Word32),
    (∃ u : State, exec (.deviceReset w) s = .next u.settleClose ∧
      (∀ t, u.link.tag t =
        if (s.link.tag t).state = .outstanding then (s.link.tag t).expired else s.link.tag t) ∧
      u = { State.reset with
        device := { Device.reset with cause := .deviceReset }, link := { Link.reset with tags := u.link.tags }
        engine := { Engine.reset with asserted := s.engine.asserted }, sent := [.regDone], pending := s.pending }) ∧
    exec .powerOnReset s = .next { State.reset with pending := s.pending }

/-! ### Channel commands -/

/-- ENABLE and DISABLE (R27, R28, R29), judged at the write.  A channel that leaves Idle or Waiting drops an automatic park
that the end of a restore claimed, for its doorbell is latched only in Draining and Disabled (R120); an explicit park claimed
there stays, which is the model's choice (log 43). -/
def Obligations.EnableAndDisable : Prop :=
  ∀ (s : State) (c : Chan), s.device.power = .active ∨ s.device.power = .doze → s.engine.fatal = false →
    let h := s.ch c
    let answer (h' : Channel) : Host.Outcome State Fault Refusal := .next (State.settleClose (s.acknowledged.setCh c h'))
    let kept : Option Origin := if h.claim = some .automatic then none else h.claim
    exec (.enable c) s = answer
      (if h.state = .error then { h with reason := .channelInError }
       else if h.state ≠ .disabled then { h with reason := .alreadyEnabled }
       else if h.resetDraining then { h with reason := .resetInProgress }
       else if h.normal.size = 0 then { h with reason := .ringNotConfigured }
       else { h with reason := .none, state := .idle }) ∧
    exec (.disable c) s = answer
      (match h.state with
       | .disabled | .draining => { h with reason := .none }
       | .idle => { h with reason := .none, state := .disabled, claim := kept }
       | .running => if h.claim ≠ none then { h with reason := .parkPending }
         else { h with reason := .none, state := .draining }
       | .waiting => { h with reason := .none, state := .draining, claim := kept }
       | .faulted | .saving | .parked | .expediting | .restoring => { h with reason := .disableWrongState }
       | .error => { h with reason := .channelInError })

/-- RESET (R31, R173, R174): accepted in every state, whether the command is deferred for others or the device is Fatal;
the beat, the waiting requests and the FLUSH request of the channel go, its outstanding requests run to their end
without an outcome, lines and the eviction buffer stay.  A channel that a Soft Init still drains stays draining until the
Soft Init completes (R172; the model's reading, log 40). -/
def Obligations.ChannelReset : Prop :=
  ∀ (s : State) (c : Chan), s.asleep = false →
    let h := s.ch c
    let mine (r : Req) : Bool := r.owner == .channel c && r.purpose != .prefetch
    ∃ u : State, exec (.reset c) s = .next u.settleClose ∧
      u.ch c = { Channel.reset with
        heldQuiesce := h.heldQuiesce, heldFatal := h.heldFatal, compact := h.compact, csbAddress := h.csbAddress
        apertures := h.apertures
        normal := { base := h.normal.base, size := h.normal.size, producer := 0, consumer := 0, fetch := 0 }
        expedite := { base := h.expedite.base, size := h.expedite.size, producer := 0, consumer := 0, fetch := 0 }
        resetDraining := (s.link.outstanding.any fun r => mine r && r.purpose.usesData) ||
          (h.resetDraining && s.device.softInit) } ∧
      (∀ d, d ≠ c → u.ch d = s.ch d) ∧ s.GaveUp u c mine ∧
      u.cache.queue = s.cache.queue.filter (fun q => q.kind != .flush c) ∧
      u = { s.acknowledged with chans := u.chans, beat := u.beat, link := u.link, cache := u.cache }

/-- PARK and UNPARK (R27, R110 to R117, R165), judged at the write.  A save begins with the write that zeroes the first
eight bytes of the block; a restore with eight reads of 64 bytes, in ascending order (the model's choice, log 12).  Each
stage of a save begins when no write of the one before is outstanding or waits, and after the third the channel is Parked,
or Expediting after an automatic park (R121). -/
def Obligations.ParkAndUnpark : Prop :=
  (∀ (s : State) (c : Chan) (v : Save), (s.ch c).save = some v →
    let h := s.ch c
    let write (offset count : Nat) : Req :=
      { kind := .writePartial, address := (v.address.toNat + offset) / 64 * 64, span := 64
        mask := BitVec.ofNat 64 (2 ^ count - 1) <<< (offset % 64)
        bytes := BitVec.ofNat 512 (bytesAt v.image (offset / 64 * 64) 64), owner := .channel c, purpose := .csbSave
        orphan := false, waited := false, fresh := true }
    let busy : Prop :=
      ∃ q ∈ s.link.outstanding ++ s.link.waiting, q.owner = .channel c ∧ q.orphan = false ∧ q.purpose = .csbSave
    (busy → s.saveStep c h = none) ∧
    (¬ busy → v.stage = 1 → s.saveStep c h = some
      (([(8, 56), (64, 64), (128, 64), (192, 64), (256, 64), (320, 64), (384, 64), (448, 64)] : List (Nat × Nat)).foldl
        (fun u p => u.ask (write p.1 p.2)) (s.setCh c { h with save := some { v with stage := 2 } }))) ∧
    (¬ busy → v.stage = 2 → s.saveStep c h = some
      ((s.setCh c { h with save := some { v with stage := 3 } }).ask (write 0 8))) ∧
    (¬ busy → v.stage = 3 → v.origin = .explicit → s.saveStep c h = some
      { s.setCh c { h with state := .parked, save := none, pendingPark := false } with
        place := s.place ++ [.post { kind := .parked, channel := some c, ring := .none, auto := false, sequence := 0
                                     status := 0, location := 0, detail := v.address }] }) ∧
    (¬ busy → v.stage = 3 → v.origin = .automatic → s.saveStep c h = some (s.setCh c
      { h with state := .expediting, save := none, expFrom := some .saved, current := none, phase := .choose }))) ∧
  ∀ (s : State) (c : Chan), s.device.power = .active ∨ s.device.power = .doze → s.engine.fatal = false →
    let h := s.ch c
    let block : Nat := if h.compact then h.csbAddress.toNat % 2 ^ 32 else h.csbAddress.toNat
    let becomes (h' : Channel) : Host.Outcome State Fault Refusal := .next (State.settleClose (s.acknowledged.setCh c h'))
    let accepted (o : Host.Outcome State Fault Refusal) : Host.Outcome State Fault Refusal :=
      if h.csbAddress = 0 then becomes { h with reason := .noCsb } else o
    let save : Save :=
      { origin := .explicit, stage := 1, address := BitVec.ofNat 64 block, image := csbEncode h h.state .explicit }
    let saving : Host.Outcome State Fault Refusal := .next (State.settleClose (State.ask
      (s.acknowledged.setCh c { h with
        reason := .none, state := .saving, claim := none, owedAttempt := .none, progressOwed := false
        save := some save })
      { kind := .writePartial, address := block / 64 * 64, span := 64, mask := 0xFF#64, bytes := 0
        owner := .channel c, purpose := .csbSave, orphan := false, waited := false, fresh := true }))
    let restore : Restore :=
      { byUnpark := true, address := BitVec.ofNat 64 block, image := 0, missing := [0, 1, 2, 3, 4, 5, 6, 7] }
    exec (.park c) s =
      (match h.state with
      | .disabled | .draining | .faulted => becomes { h with reason := .parkWrongState }
      | .error => becomes { h with reason := .channelInError }
      | .parked => becomes { h with reason := .alreadyParked }
      | .idle | .waiting => accepted saving
      | .running => accepted (becomes
        (match h.claim with
         | none => { h with reason := .none, claim := some .explicit }
         | some .explicit => { h with reason := .none }
         | some .automatic => { h with reason := .none, pendingPark := true }))
      | .saving | .restoring => accepted (becomes { h with reason := .none, pendingPark := true })
      | .expediting =>
        if h.expFrom = some .parked then becomes { h with reason := .alreadyParked }
        else accepted (becomes { h with reason := .none, pendingPark := true })) ∧
    exec (.unpark c) s =
      if h.state = .error then becomes { h with reason := .channelInError }
      else if h.state ≠ .parked then becomes { h with reason := .unparkWrongState }
      else .next (State.settleClose ((List.range 8).foldl
        (fun u i => u.ask
          { kind := .readDirect, address := block + 64 * i, span := 64, mask := 0, bytes := 0, owner := .channel c
            purpose := .csbRead i, orphan := false, waited := false, fresh := true })
        (s.acknowledged.setCh c
          { h with reason := .none, state := .restoring, restore := some restore, expFrom := none })))

/-- RESUME_RETRY of a fault of a beat, RESUME_SKIP and RESUME_SUBSTITUTE, and the four Resume commands where Table 5-2
does not admit them (R102 to R105, R124).  That the park of a latched expedite doorbell counts as claimed from the Resume
itself, not from the first beat boundary, is the model's choice (log 42). -/
def Obligations.ResumeBeatFaults : Prop :=
  ∀ (s : State) (c : Chan), s.device.power = .active ∨ s.device.power = .doze → s.engine.fatal = false →
    let h := s.ch c
    let becomes (h' : Channel) : Host.Outcome State Fault Refusal := .next (State.settleClose (s.acknowledged.setCh c h'))
    let beat := h.fault.kind = .arithmetic ∨ h.fault.kind = .address ∨ h.fault.kind = .memory
    let resumed : Channel :=
      { h with reason := .none, fault := { h.fault with valid := false }
               state := if h.resumeExpedite then .expediting else .running }
    let latched (k : Channel) : Channel :=
      if k.state = .running ∧ k.claim = none ∧ k.expedite.producer ≠ k.expedite.fetch ∧ k.csbAddress ≠ 0 then
        { k with claim := some .automatic }
      else k
    (h.state = .faulted → beat →
      exec (.resumeRetry c) s = becomes (latched { resumed with owedAttempt := .ordinary }) ∧
      ∀ x, h.current = some x →
        exec (.resumeSkip c) s = becomes (latched { resumed with
          current := some { x with beat := x.beat + 1, skipped := x.skipped + 1 }
          phase := if x.beat + 1 < descBeats x.image then .job else .ending })) ∧
    (h.state = .faulted → h.fault.kind = .arithmetic →
      exec (.resumeSubstitute c) s = becomes (latched { resumed with owedAttempt := .fullMasked })) ∧
    (h.state = .faulted → ¬ beat → exec (.resumeSkip c) s = becomes { h with reason := .resumeNotAllowed }) ∧
    (h.state = .faulted → h.fault.kind ≠ .arithmetic →
      exec (.resumeSubstitute c) s = becomes { h with reason := .resumeNotAllowed }) ∧
    (h.state ≠ .faulted → h.state ≠ .error →
      ∀ i ∈ ([.resumeRetry c, .resumeSkip c, .resumeSubstitute c, .resumeAbandon c] : List Instr),
        exec i s = becomes { h with reason := .notFaulted })

/-- RESUME_RETRY of a fault of a descriptor, and RESUME_ABANDON (R12, R17, R26, R103, R106, R124): the descriptor is read
again, each half from its line where the operand cache holds it; the descriptor is given up, with its completion record
where it has been validated and names one.  That the park of a latched expedite doorbell counts as claimed from the Resume
itself, not from the first beat boundary, is the model's choice (log 42), and so is the order of the two halves (log 41). -/
def Obligations.ResumeDescriptors : Prop :=
  ∀ (s : State) (c : Chan) (x : Current), s.device.power = .active ∨ s.device.power = .doze → s.engine.fatal = false →
    (s.ch c).state = .faulted → (s.ch c).current = some x →
    let h := s.ch c
    let f := h.fault
    let validated := f.kind = .arithmetic ∨ f.kind = .address ∨ f.kind = .memory ∨ f.kind = .control
    let reduced (a : Nat) : Nat := if h.compact then a % 2 ^ 32 else a % 2 ^ 64
    let resumed : Channel :=
      { h with reason := .none, fault := { f with valid := false }
               state := if h.resumeExpedite then .expediting else .running }
    let latched (k : Channel) : Channel :=
      if k.state = .running ∧ k.claim = none ∧ k.expedite.producer ≠ k.expedite.fetch ∧ k.csbAddress ≠ 0 then
        { k with claim := some .automatic }
      else k
    let succ (r : Ring) : Nat := if r.size = 0 then 0 else (x.location.toNat + 1) % r.size
    let left : Channel := { resumed with current := none, phase := .choose, progressOwed := false, owedAttempt := .none }
    let past : Channel :=
      match x.ring with
      | .normal => { left with normal := { h.normal with consumer := succ h.normal } }
      | .expedite => { left with expedite := { h.expedite with consumer := succ h.expedite } }
      | .list => { left with listPos := h.listPos.map fun a => BitVec.ofNat 64 (reduced (reduced a.toNat + 128)) }
      | .none => left
    let address : Nat :=
      match f.ring with
      | .normal => reduced (h.normal.base.toNat + 128 * f.location.toNat)
      | .expedite => reduced (h.expedite.base.toNat + 128 * f.location.toNat)
      | .list | .none => reduced f.location.toNat
    let half (upper : Bool) : Req :=
      { kind := .readDirect, address := address + (if upper then 64 else 0), span := 64, mask := 0, bytes := 0
        owner := .channel c, purpose := .descriptor upper, orphan := false, waited := false, fresh := true }
    let record := reduced (descCompletionField x.image)
    let got (upper : Bool) : FetchHalf :=
      match s.cache.line ((half upper).address / 64) with
      | some l => if l.state = .invalid then .waiting else .got l.bytes
      | none => .waiting
    let asks (u : State) (upper : Bool) : State := if got upper = .waiting then u.ask (half upper) else u
    (f.kind = .descriptor ∨ f.kind = .descriptorFetch ∨ f.kind = .link ∨ f.kind = .control →
      exec (.resumeRetry c) s = .next (State.settleClose (asks (asks (s.acknowledged.setCh c (latched { resumed with
          phase := .fetching (got false) (got true)
          current := some { image := 0, ring := f.ring, location := f.location, beat := 0, committed := 0, skipped := 0
                            faults := 0, flags := 0, fails := [] } })) false) true))) ∧
    (¬ validated → exec (.resumeAbandon c) s = .next (State.settleClose (s.acknowledged.setCh c (latched past)))) ∧
    (validated → record ≠ 0 →
      exec (.resumeAbandon c) s = .next (State.settleClose (State.ask
        (s.acknowledged.setCh c (latched { resumed with phase := .completing .abandoned false }))
        { kind := .writePartial, address := record / 64 * 64, span := 64
          mask := BitVec.ofNat 64 0xFFFFFFFF <<< (record % 64), bytes := 0, owner := .channel c, purpose := .record none
          orphan := false, waited := false, fresh := true }))) ∧
    (validated → record = 0 →
      exec (.resumeAbandon c) s = .next (State.settleClose
        (if bitsAt (bytesAt x.image 0 4) 4 1 = 1 then
           { s.acknowledged.setCh c (latched past) with
             place := [.post { kind := .jobComplete, channel := some c, ring := x.ring, auto := false, sequence := 0
                               status := 3, location := x.location, detail := 0 }] }
         else s.acknowledged.setCh c (latched past))))

/-- Commands that are not judged by their own rule (R27, R133, R163): a value that names no command, a command while the
device is Fatal, one deferred while the device is quiesced, and one to a channel in Error. -/
def Obligations.CommandsRefusedOrDeferred : Prop :=
  ∀ (s : State) (c : Chan) (v : Word32), s.asleep = false →
    let h := s.ch c
    let becomes (h' : Channel) : Host.Outcome State Fault Refusal := .next (State.settleClose (s.acknowledged.setCh c h'))
    (v.toNat = 0 ∨ 9 < v.toNat →
      exec (.registerWrite (BitVec.ofNat 12 (0x804 + 0x100 * c.val)) v) s = becomes { h with reason := .unknownCommand }) ∧
    ∀ p ∈ ([(.enable c, .enable), (.disable c, .disable), (.park c, .park), (.unpark c, .unpark),
        (.resumeRetry c, .resumeRetry), (.resumeSkip c, .resumeSkip), (.resumeSubstitute c, .resumeSubstitute),
        (.resumeAbandon c, .resumeAbandon)] : List (Instr × ChanCmd)),
      (s.engine.fatal = true → exec p.1 s = becomes { h with reason := .deviceFatal }) ∧
      (s.engine.fatal = false →
        s.device.power = .quiescing ∨ s.device.power = .quiesced ∨ s.device.power = .dormantEntry →
        exec p.1 s = becomes
          (if h.deferred.length < 4 then { h with deferred := h.deferred ++ [p.2] }
           else { h with reason := .deferredFull })) ∧
      (s.engine.fatal = false → s.device.power = .active ∨ s.device.power = .doze → h.state = .error →
        exec p.1 s = becomes { h with reason := .channelInError })

/-! ### Probes, the arbiter, and the part's own events -/

/-- PROBE_SHARE and PROBE_INVALIDATE (R147, R148, R168): the answer by the first row of the table that applies, and the
named line's state; nothing else. -/
def Obligations.Probes : Prop :=
  ∀ (s : State) (a : Word64),
    let n := a.toNat / 64
    let share (l : CacheLine) : CacheLine := if l.state = .invalid then l else { l with state := .shared }
    let invalidate (l : CacheLine) : CacheLine := if l.state = .invalid then l else { l with state := .invalid, bytes := 0 }
    let answer (m : ProbeAnswer) (k : Cache) : Host.Outcome State Fault Refusal :=
      .next (State.settleClose { s.fresh with sent := [.probeResp m], cache := k })
    let table (f : CacheLine → CacheLine) : Host.Outcome State Fault Refusal :=
      if s.device.power = .dormant ∨ s.device.power = .waking then answer .miss s.cache
      else if ∃ e ∈ s.cache.evict, e.line = n then answer .inTransit (s.cache.modLine n f)
      else match s.cache.line n with
        | none => answer .miss s.cache
        | some l =>
          if l.fill then answer .miss s.cache
          else match l.state with
            | .invalid => answer .miss s.cache
            | .shared | .exclusive => answer .hitClean (s.cache.modLine n f)
            | .dirty => answer (.hitDirty l.bytes) (s.cache.modLine n f)
    exec (.probeShare a) s = table share ∧ exec (.probeInvalidate a) s = table invalidate

/-- BEAT_GRANT (R32, R33, R93, R94; log 7; that a channel that owes an attempt to a Resume is ready although a park is
claimed is log 16): no effect while a beat holds the grant or no channel is ready; else the channel that the expedite
class, then the normal class, chooses in cyclic order after its pointer, and the first round of its beat's checks, which
ends in a fault or in the beat's first reads, in the order of the lanes and then of the streams (the model's choice, log
41).  The commit of a beat (R77, R141): flags, beat index and count of its channel, and the destination lines of a cached
stream. -/
def Obligations.BeatGrant : Prop :=
  (∀ (s : State) (b : Beat) (x : Current), (s.ch b.chan).current = some x →
    let c := b.chan
    let h := s.ch c
    let v := s.commit b x
    let mine (n : Nat) : List DestLane := b.dest.filter fun l => l.address / 64 == n
    v.ch c = { h with
      acw := h.acw ||| b.conds.setWidth 32, owedAttempt := .none, progressOwed := false
      current := some { x with flags := x.flags ||| b.conds, beat := x.beat + 1, committed := x.committed + 1 }
      phase := if x.beat + 1 < descBeats x.image then .job else .ending } ∧
    (∀ d, d ≠ c → v.ch d = s.ch d) ∧ v.beat = none ∧
    (streamBypass x.image .d = false → (∀ q ∈ b.acqs, q.state ≠ .fallback) →
      (∀ n, v.cache.line n = (s.cache.line n).map fun l => { l with
        state := if mine n = [] then l.state else .dirty
        bytes := (mine n).foldl (fun y k => putBytes y (k.address % 64) (streamSize x.image .d) k.value) l.bytes
        pinned := l.pinned && !b.acqs.any fun q => q.line == n }) ∧
      v = { s with chans := v.chans, beat := none, cache := { s.cache with sets := v.cache.sets } })) ∧
  ∀ (s : State) (c : Chan) (x : Current),
    let ready (d : Chan) : Bool :=
      let h := s.ch d
      h.state ∈ [.running, .draining, .expediting] && h.phase == .job &&
        (match h.current with
          | some x => descKind x.image == some .operation && x.beat < descBeats x.image && x.fails.isEmpty
          | none => false) &&
        h.pendingFault.isNone && !h.heldQuiesce && !h.heldFatal && (h.claim.isNone || h.owedAttempt != .none) &&
        s.link.dataHeld d < 12 && (s.link.freeTag true).isSome
    let expediting (d : Chan) : Bool := (s.ch d).state == .expediting
    let chosen : Bool := ready c &&
      if expediting c then allChans.all fun d => !(ready d && expediting d && decide (d - (s.expeditePtr + 1) < c - (s.expeditePtr + 1)))
      else (allChans.all fun d => !(ready d && expediting d)) &&
        allChans.all fun d => !(ready d && decide (d - (s.normalPtr + 1) < c - (s.normalPtr + 1)))
    let h := s.ch c
    let u : State := if expediting c then { s.fresh with expeditePtr := c } else { s.fresh with normalPtr := c }
    let round := firstRound h.compact h.apertures x.image x.beat
    let reads := indexAccesses round x.image
    (s.beat ≠ none → exec .beatGrant s = .next (State.settleClose s.fresh)) ∧
    (s.beat = none → (∀ d, ready d = false) → exec .beatGrant s = .next (State.settleClose s.fresh)) ∧
    (s.beat = none → chosen = true → h.current = some x → roundFailure round = none →
      exec .beatGrant s = .next (State.settleClose { u with
        beat := some
          { chan := c, fullMasked := h.owedAttempt == .fullMasked
            stage := if reads.isEmpty then .source else .index
            accesses := if reads.isEmpty then sourceAccesses h.compact x.image x.beat [] else reads
            indices := [], dest := [], conds := 0, acqs := [], touched := [] } })) ∧
    (s.beat = none → chosen = true → h.current = some x → ∀ r, roundFailure round = some r →
      exec .beatGrant s = .next (State.settleClose (u.setCh c { h with
        pendingFault := some
          { valid := true, ring := x.ring, location := x.location, kind := .address, sub := r.2.1, phase := .none
            beat := x.beat, lanes := 1#32 <<< r.1.lane, conds := 0, stream := if r.1.entry then .index else r.1.stream
            address := r.2.2 } })))

/-- RESPONSE_TIMEOUT (R101, R156, R157; log 2): the tag of an outstanding request with a timeout is freed stale, or
retired if it was stale, its generation bit inverted, and the owner receives a Fail with reason Timeout; for any other tag
nothing happens.  LATE_RESPONSE (R156, R157): counted, and a stale mark of the generation it names is cleared, in every
state of the tag (log 33), and in Dormant and Waking too, which is the model's choice (log 51).  That the tag, and not the
row, says which request a response answers is read from R151 and R156 (log 3).  A matched response that Table 9-1 does not
list for its request frees the tag, and the owner receives a Fail with reason DecodeError (R151). -/
def Obligations.TimeoutAndLateResponse : Prop :=
  ∀ (s : State) (t : TagId) (g : Bool) (resp : Response),
    let x := s.link.tag t
    let expired : Tag :=
      { state := if x.stale then .retired else .free, gen := !x.gen, stale := true, record := none }
    (∀ o, x.state = .outstanding → x.record = some o → o.timeout ≠ 0 →
      exec (.responseTimeout t) s = .next (State.settleClose (State.failed
        { s.fresh with link := s.link.putTag t expired } o.req .timeout))) ∧
    (x.state ≠ .outstanding ∨ x.record = none ∨ x.record.any (fun r => r.timeout == 0) = true →
      exec (.responseTimeout t) s = .next (State.settleClose s.fresh)) ∧
    let unmarked : Tag := { x with stale := x.stale && (g == x.gen) }
    (x.state ≠ .outstanding ∨ x.gen ≠ g →
      exec (.lateResponse t g resp) s = .next (State.settleClose { s.fresh with
        link := { s.link.putTag t unmarked with lateCount := min (s.link.lateCount + 1) 65535 } })) ∧
    ∀ (r : Req) (grant : Grant) (bytes : Line), s.Awaits t g r →
      let undecoded : Host.Outcome State Fault Refusal := .next (State.settleClose ((s.ended t).failed r .decodeError))
      (r.kind = .writeLine ∨ r.kind = .writePartial ∨ (grant = .shared ∧ (r.kind = .fetchOwned ∨ r.kind = .upgrade)) →
        ∀ i ∈ ([.fetchSharedData t g grant bytes, .siblingPrefetchData t g grant bytes, .fetchOwnedData t g grant bytes,
            .upgradeData t g grant bytes, .readDirectData t g grant bytes, .descriptorHalfData t g grant bytes,
            .csbReadData t g grant bytes] : List Instr), exec i s = undecoded) ∧
      (r.kind = .fetchShared ∨ r.kind = .fetchOwned ∨ r.kind = .readDirect →
        ∀ i ∈ ([.upgradeDone t g, .bypassWriteDone t g, .completionRecordDone t g, .csbWriteDone t g,
            .eventRecordDone t g, .writelineDone t g] : List Instr), exec i s = undecoded)

/-- DOZE (R161; log 2): the power state becomes Doze where the Doze condition holds and Doze is not disabled. -/
def Obligations.Doze : Prop :=
  ∀ s : State,
    (s.device.power = .active → s.device.quiesce = false → s.device.dozeDelay ≠ 0 →
      (∀ c, (s.ch c).state ∈ [.disabled, .idle, .parked, .faulted, .error] ∧ (s.ch c).resetDraining = false) →
      s.link.outstanding = [] → s.link.waiting = [] → s.cache.evict = [] → s.cache.sweep = none → s.cache.queue = [] →
      s.engine.fifo = [] → s.engine.lossMark = none →
      exec .doze s = .next (State.close { s.fresh with device := { s.device with power := .doze } })) ∧
    (s.device.power ≠ .active ∨ s.device.quiesce = true ∨ s.device.dozeDelay = 0 ∨
        (∃ c, (s.ch c).state ∉ [.disabled, .idle, .parked, .faulted, .error] ∨ (s.ch c).resetDraining = true) ∨
        s.link.outstanding ≠ [] ∨ s.link.waiting ≠ [] ∨ s.cache.evict ≠ [] ∨ s.cache.sweep ≠ none ∨ s.cache.queue ≠ [] ∨
        s.engine.fifo ≠ [] ∨ s.engine.lossMark ≠ none →
      exec .doze s = .next (State.close s.fresh))

/-- SWEEP_SET (R143, R145, R146, R167; log 7, log 32): the next set of the running sweep, where the eviction buffer has
room for its Dirty lines.  A FLUSH leaves its Dirty lines Exclusive and touches no other; the other sweeps leave every line
without an outstanding request Invalid.  Each line written back is an entry of the eviction buffer, which carries the
sweep's number (the model's own, log 21), and one WriteLine, ready in the order of the entries. -/
def Obligations.SweepSet : Prop :=
  ∀ s : State,
    (s.cache.sweep = none → exec .sweepSet s = .next (State.settleClose s.fresh)) ∧
    (∀ w, s.cache.sweep = some w →
      let i := setOf w.next
      let before (v : WayId) (up : Bool) : CacheLine := ((s.cache.set i).way v).line up
      let flush : Bool := match w.kind with
        | .flush _ => true
        | .command | .dormantEntry => false
      let written (v : WayId) (up : Bool) : Bool :=
        (before v up).state == .dirty && (flush || !((before v up).fill || (before v up).upgrade))
      let dirty := (allWays.map fun v => (if (before v false).state = .dirty then 1 else 0) +
        (if (before v true).state = .dirty then 1 else 0)).sum
      let entries : List EvictEntry := allWays.flatMap fun v => [false, true].filterMap fun up =>
        if written v up then
          some { line := ((s.cache.set i).way v).tag * 256 + i.val * 2 + up.toNat, bytes := (before v up).bytes
                 sweep := some w.number }
        else none
      (4 < s.cache.evict.length + dirty → exec .sweepSet s = .next (State.settleClose s.fresh)) ∧
      (s.cache.evict.length + dirty ≤ 4 → ∃ u : State, exec .sweepSet s = .next u.settleClose ∧
        u.cache = { s.cache with
          sweep := if w.next + 1 < 128 then some { w with next := w.next + 1 } else none
          evict := s.cache.evict ++ entries, sets := u.cache.sets } ∧
        u.link = (entries.foldl (fun v e => v.ask
          { kind := .writeLine, address := e.line * 64, span := 64, mask := BitVec.allOnes 64, bytes := e.bytes
            owner := .cache, purpose := .writeBack, orphan := false, waited := false, fresh := true }) s).link ∧
        (∀ (v : WayId) (up : Bool), ((u.cache.set i).way v).line up =
          if flush then (if written v up then { before v up with state := .exclusive } else before v up)
          else if (before v up).fill || (before v up).upgrade || (before v up).state == .invalid then before v up
          else { before v up with state := .invalid, bytes := 0 }) ∧
        (∀ v : WayId, ((u.cache.set i).way v).tag = ((s.cache.set i).way v).tag ∧
          ((u.cache.set i).way v).tagValid = ((s.cache.set i).way v).tagValid) ∧
        (u.cache.set i).lru = (s.cache.set i).lru ∧
        (∀ j : SetId, j ≠ i → u.cache.set j = s.cache.set j) ∧
        u = { s.fresh with cache := u.cache, link := u.link }))

/-- EVENT_RECORD_WRITE (R129, R130, R131, R171; that it is a command, log 7): where the FIFO holds an event or a loss
mark, the queue has a free slot, no event record write is outstanding, and neither Fatal nor a draining Soft Init forbids
it, the write of 32 bytes at the entry Event Tail names becomes ready; otherwise nothing happens.  That the address is
taken modulo 2^64, on which R89 and R129 are silent, is the model's choice (log 56). -/
def Obligations.EventRecordWrite : Prop :=
  ∀ s : State,
    let e := s.engine
    let address := (e.base.toNat + 32 * e.tail) % 2 ^ 64
    exec .eventRecordWrite s = .next (State.settleClose
      (if (e.fifo ≠ [] ∨ e.lossMark ≠ none) ∧ e.size ≠ 0 ∧ (e.tail + 1) % e.size ≠ e.head ∧ e.fatal = false ∧
          s.eventOutstanding = false ∧ s.device.softInit = false then
         State.ask s.fresh
           { kind := .writePartial, address := address / 64 * 64, span := 64
             mask := BitVec.ofNat 64 0xFFFFFFFF <<< (address % 64), bytes := 0, owner := .engine, purpose := .event true
             orphan := false, waited := false, fresh := true }
       else s.fresh))

/-! ### Responses -/

/-- FETCH_SHARED_DATA, SIBLING_PREFETCH_DATA and FETCH_OWNED_DATA (R138, R140, R141, R148): the line is installed as
granted where it is Invalid, the reads of the beat that wait for it take their bytes, an acquisition is judged again, and
the Data of a read that missed its tag may start a sibling prefetch, whether or not its beat goes on (log 20), whose fill
marker is set as it becomes ready and which a waiting Upgrade bars (log 9), and whose tests come before older waiting
requests take the tag (log 48); that prefetch is a request of channel c and becomes ready before the channel's others (the
model's choice, log 41).  All this holds also where channel c has entered Error since, for which R5 has the response change
nothing (the model's choice, log 63).  Either row of a FetchShared acts by the request of the tag (log 3).  A FetchOwned
answered with grant Shared has failed with DecodeError (R151). -/
def Obligations.FillData : Prop :=
  ∀ (s : State) (t : TagId) (g : Bool) (r : Req) (grant : Grant) (bytes : Line) (c : Chan), s.Awaits t g r →
    r.owner = .channel c →
    let n := r.address / 64
    let state : LineState := match grant with
      | .shared => .shared
      | .exclusive => .exclusive
    let takes (a : Access) : Access :=
      match a.state with
      | .onFill _ => if a.address / 64 = n then { a with state := .got (bytesAt bytes (a.address % 64) a.size) } else a
      | _ => a
    let reopens (q : Acq) : Acq := if q.line = n ∧ q.state = .issued then { q with state := .open_ } else q
    let u : State := { s.ended t with
      cache := s.cache.modLine n fun l =>
        if l.state = .invalid then { l with state := state, bytes := bytes, fill := false } else { l with fill := false }
      beat := s.beat.map fun b => { b with accesses := b.accesses.map takes, acqs := b.acqs.map reopens } }
    let sibling := if n % 2 = 1 then n - 1 else n + 1
    let wanted : Bool := u.cache.prefetchOn && (match u.cache.line sibling with
        | some l => l.state == .invalid && !l.fill && !l.upgrade
        | none => false) &&
      !(u.link.waiting.any fun q => q.kind == .upgrade && q.address / 64 == sibling) &&
      u.link.dataInUse < 24 && u.link.dataHeld c < 12
    (r.kind = .fetchShared → (∀ st, r.purpose ≠ .read st true) →
      exec (.fetchSharedData t g grant bytes) s = .next u.settleClose ∧
      exec (.siblingPrefetchData t g grant bytes) s = .next u.settleClose) ∧
    (r.kind = .fetchOwned → grant = .exclusive → (∀ st, r.purpose ≠ .read st true) →
      exec (.fetchOwnedData t g grant bytes) s = .next u.settleClose) ∧
    (r.kind = .fetchOwned → grant = .shared →
      exec (.fetchOwnedData t g grant bytes) s = .next (State.settleClose ((s.ended t).failed r .decodeError))) ∧
    (∀ st, r.kind = .fetchShared → r.purpose = .read st true →
      exec (.fetchSharedData t g grant bytes) s = .next (State.settleClose
        (if wanted then State.ask { u with cache := u.cache.modLine sibling fun l => { l with fill := true } }
          { kind := .fetchShared, address := sibling * 64, span := 64, mask := 0, bytes := 0, owner := .channel c
            purpose := .prefetch, orphan := false, waited := false, fresh := true }
         else u)))

/-- UPGRADE_DONE and UPGRADE_DATA (R141, R148): a line still Shared becomes Exclusive; one made Invalid meanwhile, by a
probe (log 18) or by a lost write-back (log 61), stays Invalid and is acquired again, which is the model's choice, and so
is that the line changes also for a channel that has entered Error since (log 63); Data is installed Exclusive; with grant
Shared it is a Fail with DecodeError (R151). -/
def Obligations.UpgradeResponses : Prop :=
  ∀ (s : State) (t : TagId) (g : Bool) (r : Req) (bytes : Line), s.Awaits t g r → r.kind = .upgrade →
    let n := r.address / 64
    let reopens (q : Acq) : Acq := if q.line = n ∧ q.state = .issued then { q with state := .open_ } else q
    let answer (f : CacheLine → CacheLine) : Host.Outcome State Fault Refusal := .next (State.settleClose { s.ended t with
      cache := s.cache.modLine n f, beat := s.beat.map fun b => { b with acqs := b.acqs.map reopens } })
    exec (.upgradeDone t g) s = answer (fun l =>
      { l with upgrade := false, state := if l.state = .shared then .exclusive else l.state }) ∧
    exec (.upgradeData t g .exclusive bytes) s = answer (fun l =>
      { l with upgrade := false, state := .exclusive, bytes := bytes }) ∧
    exec (.upgradeData t g .shared bytes) s = .next (State.settleClose ((s.ended t).failed r .decodeError))

/-- READ_DIRECT_DATA, DESCRIPTOR_HALF_DATA and CSB_READ_DATA (R12, R117, R142): the bytes reach the reads of the beat, the
half of the descriptor, or the line of the restore that asked for them; for a channel that has given the request up,
nothing but the tag changes, whichever of the three rows answers it (log 3).  That one Data serves all the reads of one
stream in one line is the model's reading of R142, which leaves the grouping half open (log 8). -/
def Obligations.BypassReadData : Prop :=
  ∀ (s : State) (t : TagId) (g : Bool) (r : Req) (grant : Grant) (bytes : Line) (c : Chan), s.Awaits t g r →
    r.kind = .readDirect → r.owner = .channel c →
    let h := s.ch c
    (r.orphan = true →
      ∀ i ∈ ([.readDirectData t g grant bytes, .descriptorHalfData t g grant bytes,
          .csbReadData t g grant bytes] : List Instr),
        exec i s = .next (s.ended t).settleClose) ∧
    (∀ st miss, r.orphan = false → r.purpose = .read st miss →
      exec (.readDirectData t g grant bytes) s = .next (State.settleClose { s.ended t with
        beat := s.beat.map fun b => { b with accesses := b.accesses.map fun a =>
          if a.state = .onDirect ∧ a.stream = st ∧ a.address / 64 = r.address / 64 then
            { a with state := .got (bytesAt bytes (a.address - r.address) a.size) }
          else a } })) ∧
    (∀ upper lo hi, r.orphan = false → r.purpose = .descriptor upper → h.phase = .fetching lo hi →
      exec (.descriptorHalfData t g grant bytes) s = .next (State.settleClose ((s.ended t).setCh c
        { h with phase := if upper then .fetching lo (.got bytes) else .fetching (.got bytes) hi }))) ∧
    (∀ i x, r.orphan = false → r.purpose = .csbRead i → h.restore = some x →
      exec (.csbReadData t g grant bytes) s = .next (State.settleClose ((s.ended t).setCh c
        { h with restore := some { x with
          image := putBytes x.image (64 * i) 64 bytes.toNat, missing := x.missing.filter fun j => j != i } })))

/-- BYPASS_WRITE_DONE, CSB_WRITE_DONE, COMPLETION_RECORD_DONE, EVENT_RECORD_DONE and WRITELINE_DONE (R17, R113, R126, R129,
R130, R143): the event of a completion record is posted now, with the number it already has; Event Tail advances unless
the queue has been disabled; an eviction buffer entry leaves and the requests that waited for it keep their order
(log 17). -/
def Obligations.WriteDones : Prop :=
  ∀ (s : State) (t : TagId) (g : Bool) (r : Req), s.Awaits t g r →
    let u := s.ended t
    let e := s.engine
    (∀ beat lanes, r.kind = .writePartial → r.purpose = .bypass beat lanes →
      exec (.bypassWriteDone t g) s = .next u.settleClose) ∧
    (r.kind = .writePartial → r.purpose = .csbSave → exec (.csbWriteDone t g) s = .next u.settleClose) ∧
    (∀ v, r.kind = .writePartial → r.purpose = .record v →
      exec (.completionRecordDone t g) s = .next (State.settleClose
        (match v with
         | some v => if r.orphan then u else { u with place := [.numbered v] }
         | none => u))) ∧
    (∀ live, r.kind = .writePartial → r.purpose = .event live →
      exec (.eventRecordDone t g) s = .next (State.settleClose
        (if live = true ∧ r.orphan = false then
           { u with engine := { e with tail := if e.size = 0 then e.tail else (e.tail + 1) % e.size } }
         else u))) ∧
    (r.kind = .writeLine →
      exec (.writelineDone t g) s = .next (State.settleClose { u with
        cache := { s.cache with evict := s.cache.evict.filter fun x => x.line != r.address / 64 }
        link := { u.link with waiting := s.link.waiting.map fun q =>
          if q.kind ∈ [.fetchShared, .fetchOwned, .readDirect, .writePartial] ∧ q.address / 64 = r.address / 64 then
            { q with waited := true }
          else q } }))

/-- FETCH_FAIL, SIBLING_PREFETCH_FAIL, DESCRIPTOR_FETCH_FAIL and CSB_READ_FAIL (R12, R99, R109, R140, R149): the line
keeps its state and loses its marker, the reads that asked for it fail and others ask again; a failed ReadDirect fails all
the reads of its stream in its line, on which the lanes of the Memory fault rest (the model's reading of R142, log 8); a
failed prefetch is counted; a failed half of a descriptor is noted; a failed read of the block sends the channel to Error,
which gives up its other requests (log 19); the line and the count change also for a channel that has entered Error since
(the model's choice, log 63); for a channel that has given a ReadDirect up nothing but the tag changes, whichever row
answers it (log 3). -/
def Obligations.ReadFails : Prop :=
  ∀ (s : State) (t : TagId) (g : Bool) (r : Req) (reason : FailReason) (c : Chan), s.Awaits t g r →
    r.owner = .channel c →
    let h := s.ch c
    let n := r.address / 64
    let fails (a : Access) : Access :=
      match a.state with
      | .onFill own => if a.address / 64 = n then { a with state := if own then .failed reason else .todo } else a
      | _ => a
    let u : State := { s.ended t with
      cache := s.cache.modLine n fun l =>
        if r.kind = .upgrade then { l with upgrade := false } else { l with fill := false }
      beat := s.beat.map fun b => { b with
        accesses := b.accesses.map fails
        acqs := b.acqs.map fun q => if q.line = n ∧ q.state = .issued then { q with state := .failed reason } else q } }
    (r.kind ∈ [.fetchShared, .fetchOwned, .upgrade] → r.purpose ≠ .prefetch →
      exec (.fetchFail t g reason) s = .next u.settleClose) ∧
    (r.kind = .readDirect → r.orphan = true →
      ∀ i ∈ ([.fetchFail t g reason, .descriptorFetchFail t g reason, .csbReadFail t g reason] : List Instr),
        exec i s = .next (s.ended t).settleClose) ∧
    (∀ st miss, r.kind = .readDirect → r.purpose = .read st miss → r.orphan = false →
      exec (.fetchFail t g reason) s = .next (State.settleClose { s.ended t with
        beat := s.beat.map fun b => { b with accesses := b.accesses.map fun a =>
          if a.state = .onDirect ∧ a.stream = st ∧ a.address / 64 = n then { a with state := .failed reason } else a } })) ∧
    (r.kind = .fetchShared → r.purpose = .prefetch →
      exec (.siblingPrefetchFail t g reason) s = .next (State.settleClose { u with
        cache := { u.cache with prefetchFails := min (s.cache.prefetchFails + 1) 65535 } })) ∧
    (∀ upper lo hi, r.kind = .readDirect → r.purpose = .descriptor upper → r.orphan = false → h.phase = .fetching lo hi →
      exec (.descriptorFetchFail t g reason) s = .next (State.settleClose ((s.ended t).setCh c
        { h with phase := if upper then .fetching lo (.failed reason) else .fetching (.failed reason) hi }))) ∧
    (∀ i x, r.kind = .readDirect → r.purpose = .csbRead i → r.orphan = false → h.restore = some x →
      h.state = .restoring →
      ∃ v : State, exec (.csbReadFail t g reason) s = .next v.settleClose ∧
        v.ch c = { h with
          state := .error, cause := .csbReadFailed, claim := none, owedAttempt := .none, pendingFault := none
          save := none, restore := none, progressOwed := false } ∧
        (∀ d, d ≠ c → v.ch d = s.ch d) ∧
        (s.ended t).GaveUp v c (fun q => q.owner == .channel c && !q.orphan && q.purpose != .prefetch) ∧
        v.cache.queue = s.cache.queue ∧
        v = { s.ended t with
          chans := v.chans, beat := v.beat, link := v.link, cache := v.cache
          place := [.post { kind := .unparkFailed, channel := some c, ring := .none, auto := false, sequence := 0
                            status := 3, location := 0, detail := x.address }] })

/-- BYPASS_WRITE_FAIL, COMPLETION_RECORD_FAIL, CSB_WRITE_FAIL, EVENT_RECORD_FAIL and WRITELINE_FAIL (R100, R109, R133,
R143): the channel stops and keeps the failure for its fault; it enters Error and gives up its other requests (log 19),
and its Channel Error event gives the address of the first byte the failed write names (the model's choice, log 50); the
device enters Fatal; the write-back is lost; a write that has been given up ends without an effect, whichever row answers
it (log 3). -/
def Obligations.WriteFails : Prop :=
  ∀ (s : State) (t : TagId) (g : Bool) (r : Req) (reason : FailReason), s.Awaits t g r →
    let u := s.ended t
    let n := r.address / 64
    let read (q : Req) : Bool :=
      match q.purpose with
      | .read _ _ | .acquire => true
      | _ => false
    (r.kind = .writePartial → r.orphan = true →
      ∀ i ∈ ([.bypassWriteFail t g reason, .completionRecordFail t g reason, .csbWriteFail t g reason,
          .eventRecordFail t g reason] : List Instr), exec i s = .next u.settleClose) ∧
    (∀ c beat lanes, r.kind = .writePartial → r.owner = .channel c → r.purpose = .bypass beat lanes → r.orphan = false →
      ∃ v : State, exec (.bypassWriteFail t g reason) s = .next v.settleClose ∧
        v.ch c = { s.ch c with current := (s.ch c).current.map fun x =>
          { x with fails := x.fails ++ [{ beat := beat, lanes := lanes, reason := reason }] } } ∧
        (∀ d, d ≠ c → v.ch d = s.ch d) ∧
        u.GaveUp v c (fun q => s.granted c && q.owner == .channel c && !q.orphan && read q) ∧
        v.cache.queue = s.cache.queue ∧
        v = { u with chans := v.chans, beat := v.beat, link := v.link, cache := v.cache }) ∧
    (∀ c, r.kind = .writePartial → r.owner = .channel c → r.orphan = false → (s.ch c).state ≠ .error →
      let error (i : Instr) (cause : ErrCause) (code : BitVec 16) : Prop :=
        ∃ v : State, exec i s = .next v.settleClose ∧
          v.ch c = { s.ch c with
            state := .error, cause := cause, claim := none, owedAttempt := .none, pendingFault := none, save := none
            restore := none, progressOwed := false } ∧
          (∀ d, d ≠ c → v.ch d = s.ch d) ∧
          u.GaveUp v c (fun q => q.owner == .channel c && !q.orphan && q.purpose != .prefetch) ∧
          v.cache.queue = s.cache.queue ∧
          v = { u with
            chans := v.chans, beat := v.beat, link := v.link, cache := v.cache
            place := [.post { kind := .channelError, channel := some c, ring := .none, auto := false, sequence := 0
                              status := code, location := 0, detail := BitVec.ofNat 64 r.firstByte }] }
      (∀ e, r.purpose = .record e → error (.completionRecordFail t g reason) .completionWriteFailed 1) ∧
      (r.purpose = .csbSave → error (.csbWriteFail t g reason) .csbWriteFailed 2)) ∧
    (∀ live, r.kind = .writePartial → r.owner = .engine → r.purpose = .event live → r.orphan = false →
      ∃ v : State, exec (.eventRecordFail t g reason) s = .next v.settleClose ∧
        (∀ d, v.ch d = { s.ch d with progressOwed := false }) ∧
        v = { u with engine := { s.engine with fatal := true }, chans := v.chans }) ∧
    (r.kind = .writeLine →
      exec (.writelineFail t g reason) s = .next (State.settleClose { u with
        cache := { (s.cache.modLine n fun l => { l with state := .invalid, bytes := 0 }) with
          evict := s.cache.evict.filter fun x => x.line != n
          lostWriteBacks := min (s.cache.lostWriteBacks + 1) 65535 }
        link := { u.link with waiting := s.link.waiting.map fun q =>
          if q.kind ∈ [.fetchShared, .fetchOwned, .readDirect, .writePartial] ∧ q.address / 64 = n then
            { q with waited := true }
          else q }
        place := [.post { kind := .deviceError, channel := none, ring := .none, auto := false, sequence := 0, status := 1
                          location := 0, detail := BitVec.ofNat 64 r.address }] }))

/-! ### Operations inside the commands -/

/-- A posted event in the overflow FIFO (R131, R132, R133); and the end of a place (R126, R128, R130, R131; log 6): what
draws on the event engine there is taken in the order channel 0, 1, 2, 3, power controller, operand cache, event engine.
A posted event takes the next number; one that already has its number keeps it; a completion record write takes the number
of its event into bytes 4 and 5; an event record write takes the oldest item of the FIFO.
The Channel byte of an Events Lost record is the model's choice (log 47). -/
def Obligations.EventAccepted : Prop :=
  (∀ (e : Engine) (v : Event),
    e.accept v =
      if e.fatal = true ∨ e.size = 0 then { e with lost := min (e.lost + 1) 65535 }
      else match e.lossMark with
        | some n => { e with lost := min (e.lost + 1) 65535, lossMark := some (min (n + 1) 65535) }
        | none =>
          if e.fifo.length < 8 then { e with fifo := e.fifo ++ [v] }
          else { e with lost := min (e.lost + 1) 65535, lossMark := some 1 }) ∧
  ∀ s : State,
    let ofChan (c : Chan) : List PlaceItem := s.place.filter fun x => match x with
      | .post v | .numbered v => v.channel == some c
      | .write _ d => d == some c
    let power : List PlaceItem := s.place.filter fun x => match x with
      | .post v | .numbered v => v.channel.isNone && v.kind != .deviceError
      | .write _ _ => false
    let cache : List PlaceItem := s.place.filter fun x => match x with
      | .post v | .numbered v => v.channel.isNone && v.kind == .deviceError
      | .write _ _ => false
    let engine : List PlaceItem := s.place.filter fun x => match x with
      | .post _ | .numbered _ => false
      | .write _ d => d.isNone
    s.numberPlace = (ofChan 0 ++ ofChan 1 ++ ofChan 2 ++ ofChan 3 ++ power ++ cache ++ engine).foldl State.takeItem
      { s with place := [] } ∧
    let n := s.engine.sequence
    let bumped : Engine := { s.engine with sequence := if n = 0xFFFF#16 then 1 else n + 1 }
    let edited (t : TagId) (f : Req → Req) (e : Engine) : State := { s with
      engine := e
      link := s.link.putTag t { s.link.tag t with record := (s.link.tag t).record.map fun o => { o with req := f o.req } }
      sent := s.sent.map fun m => match m with
        | .request k g r => if k = t then .request k g (f r) else m
        | m => m }
    let numbered (r : Req) : Req :=
      match r.purpose with
      | .record (some v) =>
        { r with bytes := putBytes r.bytes (r.firstOffset + 4) 2 n.toNat
                 purpose := .record (some { v with sequence := n }) }
      | _ => r
    let carrying (v : Event) (r : Req) : Req := { r with bytes := v.bytes <<< (8 * r.firstOffset) }
    (∀ v, s.takeItem (.post v) = { s with engine := bumped.accept { v with sequence := n } }) ∧
    (∀ v, s.takeItem (.numbered v) = { s with engine := s.engine.accept v }) ∧
    (∀ t c, s.takeItem (.write t (some c)) = edited t numbered bumped) ∧
    (∀ t v rest, s.engine.fifo = v :: rest →
      s.takeItem (.write t none) = edited t (carrying v) { s.engine with fifo := rest }) ∧
    (∀ t count, s.engine.fifo = [] → s.engine.lossMark = some count →
      s.takeItem (.write t none) = edited t (carrying
        { kind := .eventsLost, channel := none, ring := .none, auto := false, sequence := n, status := 0, location := 0
          detail := BitVec.ofNat 64 count }) { bumped with lossMark := none })

/-- The 32 bytes of a completion record (R125) and of an event record (R127), byte by byte. -/
def Obligations.RecordLayouts : Prop :=
  ∀ (status : Status) (x : Current) (n : BitVec 16) (v : Event),
    x.committed < 2 ^ 32 → x.skipped < 2 ^ 32 → x.faults < 2 ^ 32 →
    let ring (r : RingId) : Nat := match r with
      | .none => 0
      | .normal => 1
      | .list => 2
      | .expedite => 3
    let ofJob (k : Nat) : Nat := if descKind x.image = some .operation then k else 0
    let b := recordBytes status x n
    let e := v.bytes
    (bytesAt b 0 1 = (match status with
        | .completed => 1
        | .completedWithSkips => 2
        | .abandoned => 3
        | .empty => 4
        | .skipped => 5) ∧
      bytesAt b 1 1 = ring x.ring ∧ bytesAt b 2 1 = ofJob x.flags.toNat ∧ bytesAt b 3 1 = 0 ∧ bytesAt b 4 2 = n.toNat ∧
      bytesAt b 6 2 = 0 ∧ bytesAt b 8 8 = x.location.toNat ∧ bytesAt b 16 4 = ofJob x.committed ∧
      bytesAt b 20 4 = ofJob x.skipped ∧ bytesAt b 24 4 = ofJob x.faults ∧ b.toNat < 2 ^ 224) ∧
    (bytesAt e 0 1 = (match v.kind with
        | .jobComplete => 1
        | .jobFault => 2
        | .parked => 3
        | .unparked => 4
        | .unparkFailed => 5
        | .channelError => 6
        | .quiesceAck => 7
        | .dormantAck => 8
        | .wakeAck => 9
        | .deviceError => 10
        | .eventsLost => 11) ∧
      bytesAt e 1 1 = (match v.channel with
        | some c => c.val
        | none => 0xFF) ∧
      bytesAt e 2 1 = ring v.ring ∧ bytesAt e 3 1 = (if v.auto then 1 else 0) ∧ bytesAt e 4 2 = v.sequence.toNat ∧
      bytesAt e 6 2 = v.status.toNat ∧ bytesAt e 8 8 = v.location.toNat ∧ bytesAt e 16 8 = v.detail.toNat ∧
      e.toNat < 2 ^ 192)

/-- Integer Divide (R47): the quotient is rounded toward zero, whatever the ACW holds; the one that is out of range wraps
to the most negative value; a divisor of zero raises DZ, with masked response 0; nothing else raises a condition. -/
def Obligations.IntegerDivide : Prop :=
  ∀ (ctx : NumCtx) (j : LaneJob) (a b c : Nat), j.op = .divide → j.src.isWrap = true → j.src.size ∈ [1, 2, 4, 8] →
    a < 2 ^ j.src.bits → b < 2 ^ j.src.bits →
    let r := evalLane ctx j a b c
    (b = 0 → r.pre = condDZ ∧ r.post = 0 ∧ r.value = 0) ∧
    (b ≠ 0 → r.pre = 0 ∧ r.post = 0 ∧ r.value < 2 ^ j.src.bits ∧
      (j.src.isSigned = false → r.value = a / b) ∧
      (j.src.value a ≠ j.src.minValue ∨ j.src.value b ≠ -1 →
        j.src.value r.value = (j.src.value a).tdiv (j.src.value b)) ∧
      (j.src.isSigned = true → j.src.value a = j.src.minValue → j.src.value b = -1 →
        j.src.value r.value = j.src.minValue)) ∧
    (evalLane ctx { j with src := ⟨.signedWrap, 4⟩ } 0xFFFFFFF9 2 c).value = 0xFFFFFFFD ∧
    (evalLane ctx { j with src := ⟨.signedWrap, 4⟩ } 7 0xFFFFFFFE c).value = 0xFFFFFFFD ∧
    (evalLane ctx { j with src := ⟨.signedWrap, 4⟩ } 0x80000000 0xFFFFFFFF c).value = 0x80000000

/-- Integer Min and Max (R48): the lesser and the greater of the two values, signed for I formats and unsigned for U
formats, and no condition. -/
def Obligations.IntegerMinMax : Prop :=
  ∀ (ctx : NumCtx) (j : LaneJob) (a b c : Nat), j.src.isWrap = true → j.src.size ∈ [1, 2, 4, 8] →
    a < 2 ^ j.src.bits → b < 2 ^ j.src.bits →
    (j.op = .min → let r := evalLane ctx j a b c
      r.pre = 0 ∧ r.post = 0 ∧ (r.value = a ∨ r.value = b) ∧
      j.src.value r.value = min (j.src.value a) (j.src.value b)) ∧
    (j.op = .max → let r := evalLane ctx j a b c
      r.pre = 0 ∧ r.post = 0 ∧ (r.value = a ∨ r.value = b) ∧
      j.src.value r.value = max (j.src.value a) (j.src.value b)) ∧
    (j.src.isSigned = false → j.src.value a = a) ∧
    (j.src.isSigned = true → j.src.value a = if a < 2 ^ (j.src.bits - 1) then (a : Int) else (a : Int) - 2 ^ j.src.bits) ∧
    (j.op = .min → (evalLane ctx { j with src := ⟨.signedWrap, 1⟩ } 0xFF 1 c).value = 0xFF ∧
      (evalLane ctx { j with src := ⟨.unsignedWrap, 1⟩ } 0xFF 1 c).value = 1)

/-- And, Or, Xor and AndNot (R58): bit by bit over the whole element, in every format and under every setting of the ACW,
and no condition, so that neither the flags of the ACW nor the job-local flags change. -/
def Obligations.LogicalLanes : Prop :=
  ∀ (ctx : NumCtx) (j : LaneJob) (a b c i : Nat) (acw : Word32) (flags : CondSet),
    a < 2 ^ j.src.bits → b < 2 ^ j.src.bits →
    let r := evalLane ctx j a b c
    j.op ∈ [.and, .or, .xor, .andNot] →
    r.pre = 0 ∧ r.post = 0 ∧ acwSetFlags acw (r.pre ||| r.post) = acw ∧ flags ||| (r.pre ||| r.post) = flags ∧
    (j.op = .and → r.value.testBit i = (a.testBit i && b.testBit i)) ∧
    (j.op = .or → r.value.testBit i = (a.testBit i || b.testBit i)) ∧
    (j.op = .xor → r.value.testBit i = (a.testBit i != b.testBit i)) ∧
    (j.op = .andNot → r.value.testBit i = (a.testBit i && !b.testBit i))

/-- A descriptor that has been fetched (R12, R16) and its execution (R17 to R22; what a FENCE waits for is log 34).  SET
CONTROL, CALL and RETURN (R9, R23 to R26, R63): the update of the ACW under the mask and the Control fault, the push and
the overflow fault, the pop and the underflow fault; the held slot that a CALL from a list pushes on an empty stack is the
model's choice (log 49), and so is that a RETURN keeps the list position unreduced (log 54).  A Draining channel has then
drained, and it enters Disabled unless a hold keeps it in Draining (R30, R163; log 14).  Entry into Faulted (R96 to R98; a
park that is pending is kept, log 45): a fault of a beat waits for the job's bypass writes; the record, the fault count
and the resume state are taken (the count without bound, the model's choice, log 59), a claimed park goes, a beat of the
channel is discarded, and the Job Fault event is posted. Substitution in place of an Arithmetic fault (R107). -/
def Obligations.ControlDescriptors : Prop :=
  (∀ (s : State) (c : Chan) (f : FaultRec),
    let h := s.ch c
    let v := s.enterFaulted c f
    let ofBeat := f.kind = .arithmetic ∨ f.kind = .address ∨ f.kind = .memory
    let read (q : Req) : Bool :=
      match q.purpose with
      | .read _ _ | .acquire => true
      | _ => false
    let event : Event :=
      { kind := .jobFault, channel := some c, ring := f.ring, auto := false, sequence := 0, location := f.location
        status := BitVec.ofNat 16 (f.kind.code + 256 * f.sub.code + 4096 * f.phase.code)
        detail := match f.kind with
          | .address | .memory | .descriptorFetch => f.address
          | .arithmetic => BitVec.ofNat 64 f.beat
          | .none | .descriptor | .link | .control => 0 }
    (v.ch c = { h with
      state := .faulted, fault := f, phase := if ofBeat then .job else .ready, resumeExpedite := f.ring == .expedite
      current := h.current.map fun x => { x with faults := if ofBeat then x.faults + 1 else x.faults, fails := [] }
      claim := none, owedAttempt := .none, pendingFault := none, progressOwed := false } ∧
      (∀ d, d ≠ c → v.ch d = s.ch d) ∧
      s.GaveUp v c (fun q => s.granted c && q.owner == .channel c && !q.orphan && read q) ∧
      v.cache.queue = s.cache.queue ∧
      v = { s with chans := v.chans, beat := v.beat, link := v.link, cache := v.cache, place := s.place ++ [.post event] }) ∧
    (∀ x, h.current = some x → x.fails = [] → h.pendingFault = some f →
      s.settleFault c h = if s.bypassOutstanding c then none else some v) ∧
    ∀ (b : Beat) (x : Current) (conds : CondSet), b.chan = c → h.current = some x →
      let counted : Channel :=
        { h with acw := h.acw ||| conds.setWidth 32, current := some { x with flags := x.flags ||| conds } }
      (bitsAt (bytesAt x.image 0 4) 7 1 = 1 → s.arithmeticStop b x conds f = State.startAttempt
        { s.setCh c { counted with current := some { x with flags := x.flags ||| conds, faults := x.faults + 1 } } with
          place := s.place ++ [.post { event with auto := true }] } c true) ∧
      (bitsAt (bytesAt x.image 0 4) 7 1 = 0 → let u := s.arithmeticStop b x conds f
        u.ch c = { counted with pendingFault := some f } ∧ (∀ d, d ≠ c → u.ch d = s.ch d) ∧
        u.beat = (if s.granted c then none else s.beat) ∧ u.link = s.link ∧ u.place = s.place)) ∧
  (∀ (s : State) (c : Chan), (s.ch c).phase = .drained → (s.ch c).current = none → (s.ch c).pendingFault = none →
    s.workStep c (s.ch c) = if (s.ch c).heldQuiesce || (s.ch c).heldFatal then none
      else some (s.setCh c { s.ch c with state := .disabled, phase := .choose })) ∧
  ∀ (s : State) (c : Chan) (x : Current), (s.ch c).current = some x →
    let h := s.ch c
    let fault (kind : FaultKind) (sub : SubKind) : FaultRec :=
      { valid := true, ring := x.ring, location := x.location, kind := kind, sub := sub, phase := .none, beat := 0
        lanes := 0, conds := 0, stream := .none, address := 0 }
    let mask := bytesAt x.image 24 8
    let immediate := bytesAt x.image 16 8
    let reduced (a : Nat) : Nat := if h.compact then a % 2 ^ 32 else a % 2 ^ 64
    let succ (i : Nat) : Nat := if h.normal.size = 0 then 0 else (i + 1) % h.normal.size
    let left (k : Channel) : Channel :=
      { k with current := none, phase := if h.state = .draining then .drained else .choose, progressOwed := false
               owedAttempt := .none }
    let address : Nat :=
      match x.ring with
      | .normal => reduced (h.normal.base.toNat + 128 * x.location.toNat)
      | .expedite => reduced (h.expedite.base.toNat + 128 * x.location.toNat)
      | .list | .none => reduced x.location.toNat
    let unread (reason : FailReason) (a : Nat) : FaultRec :=
      { fault .descriptorFetch (match reason with
          | .memoryError => .memoryError
          | .decodeError => .decodeError
          | .timeout => .timeout) with address := BitVec.ofNat 64 a }
    (∀ low high : Line, let image : DescImage := high ++ low
      let u := s.setCh c { h with
        phase := .ready
        current := some { image := image, ring := x.ring, location := x.location, beat := 0, committed := 0, skipped := 0
                          faults := 0, flags := 0, fails := [] } }
      s.fetched c (.got low) (.got high) =
        if validDescriptor h.compact x.ring image then u else u.enterFaulted c (fault .descriptor .none)) ∧
    (∀ reason other, s.fetched c (.failed reason) other = s.enterFaulted c (unread reason address)) ∧
    (∀ reason low, s.fetched c (.got low) (.failed reason) = s.enterFaulted c (unread reason (address + 64))) ∧
    (let run := s.execute c h x
     (descKind x.image = some .operation → descLength x.image = 0 → run =
        (s.setCh c { h with current := some { x with committed := 0, skipped := 0, flags := 0 } }).complete c .empty) ∧
     (descKind x.image = some .operation → descLength x.image ≠ 0 → run = s.setCh c { h with phase := .job }) ∧
     (descKind x.image = some .setControl → run = s.execSetControl c h x) ∧
     (descKind x.image = some .fence → run =
        if s.recordOutstanding c || s.bypassOutstanding c then
          s.setCh c { h with phase := .fence, state := if h.state = .running then .waiting else h.state }
        else s.complete c .completed) ∧
     (descKind x.image = some .flush → run =
        (s.setCh c { h with phase := .flushing none }).modCache fun k => k.request (.flush c)) ∧
     (descKind x.image = some .call → run = s.execCall c h x) ∧
     (descKind x.image = some .ret → run = s.execReturn c h) ∧
     (descKind x.image = some .marker → run = s.complete c .completed)) ∧
    ((∃ i, mask.testBit i = true ∧ (0x000F7F7F).testBit i = false) →
      s.execSetControl c h x = s.enterFaulted c (fault .control .none)) ∧
    ((∀ i, mask.testBit i = true → (0x000F7F7F).testBit i = true) →
      ∃ acw : Word32, (∀ i : Fin 32, acw[i.val] = if mask.testBit i.val then immediate.testBit i.val else h.acw[i.val]) ∧
        s.execSetControl c h x = (s.setCh c { h with acw := acw }).complete c .completed) ∧
    (4 ≤ h.links.length → s.execCall c h x = s.enterFaulted c (fault .link .overflow)) ∧
    (h.links.length < 4 → s.execCall c h x = s.setCh c (left { h with
      links :=
        (if x.ring = .list then
           { kind := .listAddress, next := BitVec.ofNat 64 (reduced (reduced x.location.toNat + 128))
             held := match h.links with
               | [] => 0
               | e :: _ => e.held }
         else
           { kind := .ringPosition, next := BitVec.ofNat 64 (succ x.location.toNat), held := x.location.toNat }) :: h.links
      listPos := some (BitVec.ofNat 64 (reduced immediate)) })) ∧
    (h.links = [] → s.execReturn c h = s.enterFaulted c (fault .link .underflow)) ∧
    (∀ e rest, h.links = e :: rest → s.execReturn c h = s.setCh c (left
      (match e.kind with
       | .listAddress => { h with links := rest, listPos := some e.next }
       | .ringPosition =>
         { h with links := rest, listPos := none, normal := { h.normal with consumer := succ e.held } })))

/-- The checks of an access (R83 to R87, R89, R91, R94): overflow in native addressing mode, then alignment, then the
apertures, one of which alone must be enabled, cover the address and grant the permission. -/
def Obligations.AccessChecks : Prop :=
  ∀ (compact : Bool) (aps : Vector Aperture 4) (exact : Int) (size : Nat) (write : Bool), 0 < size →
    let used : Int := if compact then exact % 2 ^ 32 else exact
    let admits : Prop := ∃ i : Fin 4, (aps[i.val]).control[0] = true ∧
      (if write then (aps[i.val]).control[2] = true else (aps[i.val]).control[1] = true) ∧
      ((aps[i.val]).base.toNat : Int) ≤ used ∧ used ≤ ((aps[i.val]).limit.toNat : Int)
    let r := checkAddress compact aps exact size write
    (compact = false → exact < 0 ∨ 2 ^ 64 ≤ exact → r = .failed .overflow (BitVec.ofInt 64 exact)) ∧
    (compact = true ∨ 0 ≤ exact ∧ exact < 2 ^ 64 →
      (used % size ≠ 0 → r = .failed .misaligned (BitVec.ofInt 64 used)) ∧
      (used % size = 0 → ¬ admits → r = .failed .aperture (BitVec.ofInt 64 used)) ∧
      (used % size = 0 → admits → r = .pass used.toNat))

/-- The context save block (R111, R112, R119): what a save of a channel records is what a restore of the block reads back,
with restart choice Continue; without a current descriptor none is read back, and of a descriptor that is no OPERATION the
counts and flags are 0.  When every line of the block has been read, a block that fails a check of R118 sends the channel
to Error, which gives up its requests (log 19); a valid one with restart choice Continue is taken up, the fields no check
names as they stand (log 30; R116, R119; that a descriptor in an Idle block is kept unexecuted is log 53, what comes
before a claimed park is log 36), and a park is claimed for pending-park or for a latched expedite doorbell, also while a
hold is in force (log 52).  Counts of 2^32 and more are left out (log 59). -/
def Obligations.SavedContextReadsBack : Prop :=
  (∀ (s : State) (c : Chan) (x : Restore), (s.ch c).restore = some x → x.missing = [] → (s.ch c).state = .restoring →
    let h := s.ch c
    let b := x.image
    let event (kind : EventKind) (code : Nat) : PlaceItem :=
      .post { kind := kind, channel := some c, ring := .none, auto := false, sequence := 0, status := BitVec.ofNat 16 code
              location := 0, detail := x.address }
    (∀ cause, csbCheck h b = some cause → ∃ v, s.restoreStep c h = some v ∧
      v.ch c = { h with
        state := .error, cause := cause, claim := none, owedAttempt := .none, pendingFault := none, save := none
        restore := none, progressOwed := false } ∧
      (∀ d, d ≠ c → v.ch d = s.ch d) ∧
      s.GaveUp v c (fun q => q.owner == .channel c && !q.orphan && q.purpose != .prefetch) ∧
      v.cache.queue = s.cache.queue ∧
      v = { s with chans := v.chans, beat := v.beat, link := v.link, cache := v.cache
                   place := s.place ++ [event .unparkFailed cause.code] }) ∧
    ∀ state, csbCheck h b = none → csbRestart b = some .continue_ → csbState b = some state →
      let phase : Phase := match csbCurrent b with
        | none => .choose
        | some y =>
          if state = .idle then .choose
          else if state = .waiting then .fence
          else if descKind y.image = some .operation ∧ descLength y.image ≠ 0 then
            (if y.beat = descBeats y.image then .ending else .job)
          else .ready
      s.restoreStep c h = some { s.setCh c { h with
          state := state, restore := none, links := (csbLinks b).reverse, acw := csbAcw b, current := csbCurrent b
          listPos := if csbHasList b then some (csbListPos b) else none
          phase := phase
          owedAttempt := if state ≠ .idle ∧ (phase = .ready ∨ phase = .fence ∨ phase = .ending) then .restored
            else h.owedAttempt
          claim := if h.pendingPark then some .explicit
            else if state ≠ .idle ∧ h.expedite.producer ≠ h.expedite.fetch ∧ h.csbAddress ≠ 0 then some .automatic
            else h.claim } with
        place := if x.byUnpark then s.place ++ [event .unparked 0] else s.place }) ∧
  ∀ (h : Channel) (origin : Origin),
    h.state = .idle ∨ h.state = .running ∨ h.state = .waiting → h.links.length ≤ 4 → (∀ e ∈ h.links, e.held < 2 ^ 16) →
    h.normal.consumer < 2 ^ 16 → h.normal.fetch < 2 ^ 16 →
    (∀ x, h.current = some x → (x.ring = .normal ∨ x.ring = .list) ∧
      x.beat < 2 ^ 32 ∧ x.committed < 2 ^ 32 ∧ x.skipped < 2 ^ 32 ∧ x.faults < 2 ^ 32) →
    let b := csbEncode h h.state origin
    bytesAt b 0 4 = 0x0D5C0240 ∧ bytesAt b 4 4 = 1 ∧ csbState b = some h.state ∧ csbRestart b = some .continue_ ∧
    csbPositions h b = true ∧ csbDepth b = h.links.length ∧ (csbLinks b).reverse = h.links ∧
    (if csbHasList b then some (csbListPos b) else none) = h.listPos ∧ csbAcw b = h.acw ∧
    csbCurrent b = h.current.map fun x =>
      if descKind x.image = some .operation then { x with fails := [] }
      else { x with beat := 0, committed := 0, skipped := 0, faults := 0, flags := 0, fails := [] }

end Statements
end

