-- ==== Sys2Proof/Laws/State.lean ====
section
/-! SUPPORT. One lemma per field per update of State, so that no proof unfolds a record update. -/
namespace Sys2Proof.Machine

variable (s : State)

@[simp] theorem State.setCh_device (c : Chan) (x : Channel) : (s.setCh c x).device = s.device := rfl
@[simp] theorem State.setCh_normalPtr (c : Chan) (x : Channel) : (s.setCh c x).normalPtr = s.normalPtr := rfl
@[simp] theorem State.setCh_expeditePtr (c : Chan) (x : Channel) : (s.setCh c x).expeditePtr = s.expeditePtr := rfl
@[simp] theorem State.setCh_beat (c : Chan) (x : Channel) : (s.setCh c x).beat = s.beat := rfl
@[simp] theorem State.setCh_cache (c : Chan) (x : Channel) : (s.setCh c x).cache = s.cache := rfl
@[simp] theorem State.setCh_link (c : Chan) (x : Channel) : (s.setCh c x).link = s.link := rfl
@[simp] theorem State.setCh_engine (c : Chan) (x : Channel) : (s.setCh c x).engine = s.engine := rfl
@[simp] theorem State.setCh_sent (c : Chan) (x : Channel) : (s.setCh c x).sent = s.sent := rfl
@[simp] theorem State.setCh_pending (c : Chan) (x : Channel) : (s.setCh c x).pending = s.pending := rfl
@[simp] theorem State.setCh_place (c : Chan) (x : Channel) : (s.setCh c x).place = s.place := rfl

@[simp] theorem State.modCh_device (c : Chan) (f : Channel → Channel) : (s.modCh c f).device = s.device := rfl
@[simp] theorem State.modCh_normalPtr (c : Chan) (f : Channel → Channel) : (s.modCh c f).normalPtr = s.normalPtr := rfl
@[simp] theorem State.modCh_expeditePtr (c : Chan) (f : Channel → Channel) : (s.modCh c f).expeditePtr = s.expeditePtr := rfl
@[simp] theorem State.modCh_beat (c : Chan) (f : Channel → Channel) : (s.modCh c f).beat = s.beat := rfl
@[simp] theorem State.modCh_cache (c : Chan) (f : Channel → Channel) : (s.modCh c f).cache = s.cache := rfl
@[simp] theorem State.modCh_link (c : Chan) (f : Channel → Channel) : (s.modCh c f).link = s.link := rfl
@[simp] theorem State.modCh_engine (c : Chan) (f : Channel → Channel) : (s.modCh c f).engine = s.engine := rfl
@[simp] theorem State.modCh_sent (c : Chan) (f : Channel → Channel) : (s.modCh c f).sent = s.sent := rfl
@[simp] theorem State.modCh_pending (c : Chan) (f : Channel → Channel) : (s.modCh c f).pending = s.pending := rfl
@[simp] theorem State.modCh_place (c : Chan) (f : Channel → Channel) : (s.modCh c f).place = s.place := rfl

@[simp] theorem State.reject_device (c : Chan) (r : Reason) : (s.reject c r).device = s.device := rfl
@[simp] theorem State.reject_normalPtr (c : Chan) (r : Reason) : (s.reject c r).normalPtr = s.normalPtr := rfl
@[simp] theorem State.reject_expeditePtr (c : Chan) (r : Reason) : (s.reject c r).expeditePtr = s.expeditePtr := rfl
@[simp] theorem State.reject_beat (c : Chan) (r : Reason) : (s.reject c r).beat = s.beat := rfl
@[simp] theorem State.reject_cache (c : Chan) (r : Reason) : (s.reject c r).cache = s.cache := rfl
@[simp] theorem State.reject_link (c : Chan) (r : Reason) : (s.reject c r).link = s.link := rfl
@[simp] theorem State.reject_engine (c : Chan) (r : Reason) : (s.reject c r).engine = s.engine := rfl
@[simp] theorem State.reject_sent (c : Chan) (r : Reason) : (s.reject c r).sent = s.sent := rfl
@[simp] theorem State.reject_pending (c : Chan) (r : Reason) : (s.reject c r).pending = s.pending := rfl
@[simp] theorem State.reject_place (c : Chan) (r : Reason) : (s.reject c r).place = s.place := rfl

@[simp] theorem State.send_device (m : Message) : (s.send m).device = s.device := rfl
@[simp] theorem State.send_chans (m : Message) : (s.send m).chans = s.chans := rfl
@[simp] theorem State.send_normalPtr (m : Message) : (s.send m).normalPtr = s.normalPtr := rfl
@[simp] theorem State.send_expeditePtr (m : Message) : (s.send m).expeditePtr = s.expeditePtr := rfl
@[simp] theorem State.send_beat (m : Message) : (s.send m).beat = s.beat := rfl
@[simp] theorem State.send_cache (m : Message) : (s.send m).cache = s.cache := rfl
@[simp] theorem State.send_link (m : Message) : (s.send m).link = s.link := rfl
@[simp] theorem State.send_engine (m : Message) : (s.send m).engine = s.engine := rfl
@[simp] theorem State.send_pending (m : Message) : (s.send m).pending = s.pending := rfl
@[simp] theorem State.send_place (m : Message) : (s.send m).place = s.place := rfl

@[simp] theorem State.modCache_device (f : Cache → Cache) : (s.modCache f).device = s.device := rfl
@[simp] theorem State.modCache_chans (f : Cache → Cache) : (s.modCache f).chans = s.chans := rfl
@[simp] theorem State.modCache_normalPtr (f : Cache → Cache) : (s.modCache f).normalPtr = s.normalPtr := rfl
@[simp] theorem State.modCache_expeditePtr (f : Cache → Cache) : (s.modCache f).expeditePtr = s.expeditePtr := rfl
@[simp] theorem State.modCache_beat (f : Cache → Cache) : (s.modCache f).beat = s.beat := rfl
@[simp] theorem State.modCache_link (f : Cache → Cache) : (s.modCache f).link = s.link := rfl
@[simp] theorem State.modCache_engine (f : Cache → Cache) : (s.modCache f).engine = s.engine := rfl
@[simp] theorem State.modCache_sent (f : Cache → Cache) : (s.modCache f).sent = s.sent := rfl
@[simp] theorem State.modCache_pending (f : Cache → Cache) : (s.modCache f).pending = s.pending := rfl
@[simp] theorem State.modCache_place (f : Cache → Cache) : (s.modCache f).place = s.place := rfl

@[simp] theorem State.modBeat_device (f : Beat → Beat) : (s.modBeat f).device = s.device := rfl
@[simp] theorem State.modBeat_chans (f : Beat → Beat) : (s.modBeat f).chans = s.chans := rfl
@[simp] theorem State.modBeat_normalPtr (f : Beat → Beat) : (s.modBeat f).normalPtr = s.normalPtr := rfl
@[simp] theorem State.modBeat_expeditePtr (f : Beat → Beat) : (s.modBeat f).expeditePtr = s.expeditePtr := rfl
@[simp] theorem State.modBeat_cache (f : Beat → Beat) : (s.modBeat f).cache = s.cache := rfl
@[simp] theorem State.modBeat_link (f : Beat → Beat) : (s.modBeat f).link = s.link := rfl
@[simp] theorem State.modBeat_engine (f : Beat → Beat) : (s.modBeat f).engine = s.engine := rfl
@[simp] theorem State.modBeat_sent (f : Beat → Beat) : (s.modBeat f).sent = s.sent := rfl
@[simp] theorem State.modBeat_pending (f : Beat → Beat) : (s.modBeat f).pending = s.pending := rfl
@[simp] theorem State.modBeat_place (f : Beat → Beat) : (s.modBeat f).place = s.place := rfl

@[simp] theorem State.ask_device (r : Req) : (s.ask r).device = s.device := rfl
@[simp] theorem State.ask_chans (r : Req) : (s.ask r).chans = s.chans := rfl
@[simp] theorem State.ask_normalPtr (r : Req) : (s.ask r).normalPtr = s.normalPtr := rfl
@[simp] theorem State.ask_expeditePtr (r : Req) : (s.ask r).expeditePtr = s.expeditePtr := rfl
@[simp] theorem State.ask_beat (r : Req) : (s.ask r).beat = s.beat := rfl
@[simp] theorem State.ask_cache (r : Req) : (s.ask r).cache = s.cache := rfl
@[simp] theorem State.ask_engine (r : Req) : (s.ask r).engine = s.engine := rfl
@[simp] theorem State.ask_sent (r : Req) : (s.ask r).sent = s.sent := rfl
@[simp] theorem State.ask_pending (r : Req) : (s.ask r).pending = s.pending := rfl
@[simp] theorem State.ask_place (r : Req) : (s.ask r).place = s.place := rfl

@[simp] theorem State.bumpSequence_device : (s.bumpSequence).device = s.device := rfl
@[simp] theorem State.bumpSequence_chans : (s.bumpSequence).chans = s.chans := rfl
@[simp] theorem State.bumpSequence_normalPtr : (s.bumpSequence).normalPtr = s.normalPtr := rfl
@[simp] theorem State.bumpSequence_expeditePtr : (s.bumpSequence).expeditePtr = s.expeditePtr := rfl
@[simp] theorem State.bumpSequence_beat : (s.bumpSequence).beat = s.beat := rfl
@[simp] theorem State.bumpSequence_cache : (s.bumpSequence).cache = s.cache := rfl
@[simp] theorem State.bumpSequence_link : (s.bumpSequence).link = s.link := rfl
@[simp] theorem State.bumpSequence_sent : (s.bumpSequence).sent = s.sent := rfl
@[simp] theorem State.bumpSequence_pending : (s.bumpSequence).pending = s.pending := rfl
@[simp] theorem State.bumpSequence_place : (s.bumpSequence).place = s.place := rfl

@[simp] theorem State.postNumbered_device (v : Event) : (s.postNumbered v).device = s.device := rfl
@[simp] theorem State.postNumbered_chans (v : Event) : (s.postNumbered v).chans = s.chans := rfl
@[simp] theorem State.postNumbered_normalPtr (v : Event) : (s.postNumbered v).normalPtr = s.normalPtr := rfl
@[simp] theorem State.postNumbered_expeditePtr (v : Event) : (s.postNumbered v).expeditePtr = s.expeditePtr := rfl
@[simp] theorem State.postNumbered_beat (v : Event) : (s.postNumbered v).beat = s.beat := rfl
@[simp] theorem State.postNumbered_cache (v : Event) : (s.postNumbered v).cache = s.cache := rfl
@[simp] theorem State.postNumbered_link (v : Event) : (s.postNumbered v).link = s.link := rfl
@[simp] theorem State.postNumbered_sent (v : Event) : (s.postNumbered v).sent = s.sent := rfl
@[simp] theorem State.postNumbered_pending (v : Event) : (s.postNumbered v).pending = s.pending := rfl
@[simp] theorem State.postNumbered_place (v : Event) : (s.postNumbered v).place = s.place ++ [.numbered v] := rfl

@[simp] theorem State.post_device (v : Event) : (s.post v).device = s.device := rfl
@[simp] theorem State.post_chans (v : Event) : (s.post v).chans = s.chans := rfl
@[simp] theorem State.post_normalPtr (v : Event) : (s.post v).normalPtr = s.normalPtr := rfl
@[simp] theorem State.post_expeditePtr (v : Event) : (s.post v).expeditePtr = s.expeditePtr := rfl
@[simp] theorem State.post_beat (v : Event) : (s.post v).beat = s.beat := rfl
@[simp] theorem State.post_cache (v : Event) : (s.post v).cache = s.cache := rfl
@[simp] theorem State.post_link (v : Event) : (s.post v).link = s.link := rfl
@[simp] theorem State.post_sent (v : Event) : (s.post v).sent = s.sent := rfl
@[simp] theorem State.post_pending (v : Event) : (s.post v).pending = s.pending := rfl
@[simp] theorem State.post_engine (v : Event) : (s.post v).engine = s.engine := rfl
@[simp] theorem State.post_place (v : Event) : (s.post v).place = s.place ++ [.post v] := rfl

@[simp] theorem State.note_device (x : PlaceItem) : (s.note x).device = s.device := rfl
@[simp] theorem State.note_chans (x : PlaceItem) : (s.note x).chans = s.chans := rfl
@[simp] theorem State.note_normalPtr (x : PlaceItem) : (s.note x).normalPtr = s.normalPtr := rfl
@[simp] theorem State.note_expeditePtr (x : PlaceItem) : (s.note x).expeditePtr = s.expeditePtr := rfl
@[simp] theorem State.note_beat (x : PlaceItem) : (s.note x).beat = s.beat := rfl
@[simp] theorem State.note_cache (x : PlaceItem) : (s.note x).cache = s.cache := rfl
@[simp] theorem State.note_link (x : PlaceItem) : (s.note x).link = s.link := rfl
@[simp] theorem State.note_engine (x : PlaceItem) : (s.note x).engine = s.engine := rfl
@[simp] theorem State.note_sent (x : PlaceItem) : (s.note x).sent = s.sent := rfl
@[simp] theorem State.note_pending (x : PlaceItem) : (s.note x).pending = s.pending := rfl
@[simp] theorem State.note_place (x : PlaceItem) : (s.note x).place = s.place ++ [x] := rfl
@[simp] theorem State.note_ch (x : PlaceItem) (c : Chan) : (s.note x).ch c = s.ch c := rfl

@[simp] theorem State.editRequest_device (t : TagId) (f : Req → Req) : (s.editRequest t f).device = s.device := rfl
@[simp] theorem State.editRequest_chans (t : TagId) (f : Req → Req) : (s.editRequest t f).chans = s.chans := rfl
@[simp] theorem State.editRequest_normalPtr (t : TagId) (f : Req → Req) : (s.editRequest t f).normalPtr = s.normalPtr := rfl
@[simp] theorem State.editRequest_expeditePtr (t : TagId) (f : Req → Req) : (s.editRequest t f).expeditePtr = s.expeditePtr := rfl
@[simp] theorem State.editRequest_beat (t : TagId) (f : Req → Req) : (s.editRequest t f).beat = s.beat := rfl
@[simp] theorem State.editRequest_cache (t : TagId) (f : Req → Req) : (s.editRequest t f).cache = s.cache := rfl
@[simp] theorem State.editRequest_engine (t : TagId) (f : Req → Req) : (s.editRequest t f).engine = s.engine := rfl
@[simp] theorem State.editRequest_place (t : TagId) (f : Req → Req) : (s.editRequest t f).place = s.place := rfl
@[simp] theorem State.editRequest_pending (t : TagId) (f : Req → Req) : (s.editRequest t f).pending = s.pending := rfl
@[simp] theorem State.editRequest_ch (t : TagId) (f : Req → Req) (c : Chan) : (s.editRequest t f).ch c = s.ch c := rfl
@[simp] theorem State.editRequest_waiting (t : TagId) (f : Req → Req) :
    (s.editRequest t f).link.waiting = s.link.waiting := rfl

@[simp] theorem State.issue_device (t : TagId) (r : Req) : (s.issue t r).device = s.device := rfl
@[simp] theorem State.issue_chans (t : TagId) (r : Req) : (s.issue t r).chans = s.chans := rfl
@[simp] theorem State.issue_normalPtr (t : TagId) (r : Req) : (s.issue t r).normalPtr = s.normalPtr := rfl
@[simp] theorem State.issue_expeditePtr (t : TagId) (r : Req) : (s.issue t r).expeditePtr = s.expeditePtr := rfl
@[simp] theorem State.issue_beat (t : TagId) (r : Req) : (s.issue t r).beat = s.beat := rfl
@[simp] theorem State.issue_cache (t : TagId) (r : Req) : (s.issue t r).cache = s.cache := rfl
@[simp] theorem State.issue_engine (t : TagId) (r : Req) : (s.issue t r).engine = s.engine := rfl
@[simp] theorem State.issue_place (t : TagId) (r : Req) : (s.issue t r).place = s.place := rfl
@[simp] theorem State.issue_pending (t : TagId) (r : Req) : (s.issue t r).pending = s.pending := rfl
@[simp] theorem State.issue_ch (t : TagId) (r : Req) (c : Chan) : (s.issue t r).ch c = s.ch c := rfl

@[simp] theorem State.markUpgrade_device (n : Nat) : (s.markUpgrade n).device = s.device := rfl
@[simp] theorem State.markUpgrade_chans (n : Nat) : (s.markUpgrade n).chans = s.chans := rfl
@[simp] theorem State.markUpgrade_normalPtr (n : Nat) : (s.markUpgrade n).normalPtr = s.normalPtr := rfl
@[simp] theorem State.markUpgrade_expeditePtr (n : Nat) : (s.markUpgrade n).expeditePtr = s.expeditePtr := rfl
@[simp] theorem State.markUpgrade_beat (n : Nat) : (s.markUpgrade n).beat = s.beat := rfl
@[simp] theorem State.markUpgrade_link (n : Nat) : (s.markUpgrade n).link = s.link := rfl
@[simp] theorem State.markUpgrade_engine (n : Nat) : (s.markUpgrade n).engine = s.engine := rfl
@[simp] theorem State.markUpgrade_place (n : Nat) : (s.markUpgrade n).place = s.place := rfl
@[simp] theorem State.markUpgrade_sent (n : Nat) : (s.markUpgrade n).sent = s.sent := rfl
@[simp] theorem State.markUpgrade_pending (n : Nat) : (s.markUpgrade n).pending = s.pending := rfl
@[simp] theorem State.markUpgrade_ch (n : Nat) (c : Chan) : (s.markUpgrade n).ch c = s.ch c := rfl

@[simp] theorem State.setPower_chans (p : PowerState) : (s.setPower p).chans = s.chans := rfl
@[simp] theorem State.setPower_normalPtr (p : PowerState) : (s.setPower p).normalPtr = s.normalPtr := rfl
@[simp] theorem State.setPower_expeditePtr (p : PowerState) : (s.setPower p).expeditePtr = s.expeditePtr := rfl
@[simp] theorem State.setPower_beat (p : PowerState) : (s.setPower p).beat = s.beat := rfl
@[simp] theorem State.setPower_cache (p : PowerState) : (s.setPower p).cache = s.cache := rfl
@[simp] theorem State.setPower_link (p : PowerState) : (s.setPower p).link = s.link := rfl
@[simp] theorem State.setPower_engine (p : PowerState) : (s.setPower p).engine = s.engine := rfl
@[simp] theorem State.setPower_sent (p : PowerState) : (s.setPower p).sent = s.sent := rfl
@[simp] theorem State.setPower_pending (p : PowerState) : (s.setPower p).pending = s.pending := rfl
@[simp] theorem State.setPower_place (p : PowerState) : (s.setPower p).place = s.place := rfl

@[simp] theorem State.setDormantStep_chans (x : DormantStep) : (s.setDormantStep x).chans = s.chans := rfl
@[simp] theorem State.setDormantStep_normalPtr (x : DormantStep) : (s.setDormantStep x).normalPtr = s.normalPtr := rfl
@[simp] theorem State.setDormantStep_expeditePtr (x : DormantStep) : (s.setDormantStep x).expeditePtr = s.expeditePtr := rfl
@[simp] theorem State.setDormantStep_beat (x : DormantStep) : (s.setDormantStep x).beat = s.beat := rfl
@[simp] theorem State.setDormantStep_cache (x : DormantStep) : (s.setDormantStep x).cache = s.cache := rfl
@[simp] theorem State.setDormantStep_link (x : DormantStep) : (s.setDormantStep x).link = s.link := rfl
@[simp] theorem State.setDormantStep_engine (x : DormantStep) : (s.setDormantStep x).engine = s.engine := rfl
@[simp] theorem State.setDormantStep_sent (x : DormantStep) : (s.setDormantStep x).sent = s.sent := rfl
@[simp] theorem State.setDormantStep_pending (x : DormantStep) : (s.setDormantStep x).pending = s.pending := rfl
@[simp] theorem State.setDormantStep_place (x : DormantStep) : (s.setDormantStep x).place = s.place := rfl

@[simp] theorem State.begin_device : (s.begin).device = s.device := rfl
@[simp] theorem State.begin_chans : (s.begin).chans = s.chans := rfl
@[simp] theorem State.begin_normalPtr : (s.begin).normalPtr = s.normalPtr := rfl
@[simp] theorem State.begin_expeditePtr : (s.begin).expeditePtr = s.expeditePtr := rfl
@[simp] theorem State.begin_beat : (s.begin).beat = s.beat := rfl
@[simp] theorem State.begin_cache : (s.begin).cache = s.cache := rfl
@[simp] theorem State.begin_link : (s.begin).link = s.link := rfl
@[simp] theorem State.begin_engine : (s.begin).engine = s.engine := rfl
@[simp] theorem State.begin_pending : (s.begin).pending = s.pending := rfl
@[simp] theorem State.begin_place : s.begin.place = [] := rfl

@[simp] theorem State.age_device : (s.age).device = s.device := rfl
@[simp] theorem State.age_chans : (s.age).chans = s.chans := rfl
@[simp] theorem State.age_normalPtr : (s.age).normalPtr = s.normalPtr := rfl
@[simp] theorem State.age_expeditePtr : (s.age).expeditePtr = s.expeditePtr := rfl
@[simp] theorem State.age_beat : (s.age).beat = s.beat := rfl
@[simp] theorem State.age_cache : (s.age).cache = s.cache.aged := rfl
@[simp] theorem State.age_engine : (s.age).engine = s.engine := rfl
@[simp] theorem State.age_sent : (s.age).sent = s.sent := rfl
@[simp] theorem State.age_pending : (s.age).pending = s.pending := rfl
@[simp] theorem State.age_place : (s.age).place = s.place := rfl

@[simp] theorem State.freeOutstanding_device (t : TagId) : (s.freeOutstanding t).device = s.device := rfl
@[simp] theorem State.freeOutstanding_chans (t : TagId) : (s.freeOutstanding t).chans = s.chans := rfl
@[simp] theorem State.freeOutstanding_normalPtr (t : TagId) : (s.freeOutstanding t).normalPtr = s.normalPtr := rfl
@[simp] theorem State.freeOutstanding_expeditePtr (t : TagId) : (s.freeOutstanding t).expeditePtr = s.expeditePtr := rfl
@[simp] theorem State.freeOutstanding_beat (t : TagId) : (s.freeOutstanding t).beat = s.beat := rfl
@[simp] theorem State.freeOutstanding_cache (t : TagId) : (s.freeOutstanding t).cache = s.cache := rfl
@[simp] theorem State.freeOutstanding_engine (t : TagId) : (s.freeOutstanding t).engine = s.engine := rfl
@[simp] theorem State.freeOutstanding_sent (t : TagId) : (s.freeOutstanding t).sent = s.sent := rfl
@[simp] theorem State.freeOutstanding_pending (t : TagId) : (s.freeOutstanding t).pending = s.pending := rfl
@[simp] theorem State.freeOutstanding_place (t : TagId) : (s.freeOutstanding t).place = s.place := rfl

@[simp] theorem State.wakeDoze_chans : (s.wakeDoze).chans = s.chans := rfl
@[simp] theorem State.wakeDoze_normalPtr : (s.wakeDoze).normalPtr = s.normalPtr := rfl
@[simp] theorem State.wakeDoze_expeditePtr : (s.wakeDoze).expeditePtr = s.expeditePtr := rfl
@[simp] theorem State.wakeDoze_beat : (s.wakeDoze).beat = s.beat := rfl
@[simp] theorem State.wakeDoze_cache : (s.wakeDoze).cache = s.cache := rfl
@[simp] theorem State.wakeDoze_link : (s.wakeDoze).link = s.link := rfl
@[simp] theorem State.wakeDoze_engine : (s.wakeDoze).engine = s.engine := rfl
@[simp] theorem State.wakeDoze_sent : (s.wakeDoze).sent = s.sent := rfl
@[simp] theorem State.wakeDoze_pending : (s.wakeDoze).pending = s.pending := rfl
@[simp] theorem State.wakeDoze_place : (s.wakeDoze).place = s.place := rfl

@[simp] theorem State.late_device (t : TagId) (gen : Bool) : (s.late t gen).device = s.device := rfl
@[simp] theorem State.late_chans (t : TagId) (gen : Bool) : (s.late t gen).chans = s.chans := rfl
@[simp] theorem State.late_normalPtr (t : TagId) (gen : Bool) : (s.late t gen).normalPtr = s.normalPtr := rfl
@[simp] theorem State.late_expeditePtr (t : TagId) (gen : Bool) : (s.late t gen).expeditePtr = s.expeditePtr := rfl
@[simp] theorem State.late_beat (t : TagId) (gen : Bool) : (s.late t gen).beat = s.beat := rfl
@[simp] theorem State.late_cache (t : TagId) (gen : Bool) : (s.late t gen).cache = s.cache := rfl
@[simp] theorem State.late_engine (t : TagId) (gen : Bool) : (s.late t gen).engine = s.engine := rfl
@[simp] theorem State.late_sent (t : TagId) (gen : Bool) : (s.late t gen).sent = s.sent := rfl
@[simp] theorem State.late_pending (t : TagId) (gen : Bool) : (s.late t gen).pending = s.pending := rfl
@[simp] theorem State.late_place (t : TagId) (gen : Bool) : (s.late t gen).place = s.place := rfl

@[simp] theorem State.rejectEventConfig_chans : (s.rejectEventConfig).chans = s.chans := rfl
@[simp] theorem State.rejectEventConfig_normalPtr : (s.rejectEventConfig).normalPtr = s.normalPtr := rfl
@[simp] theorem State.rejectEventConfig_expeditePtr : (s.rejectEventConfig).expeditePtr = s.expeditePtr := rfl
@[simp] theorem State.rejectEventConfig_beat : (s.rejectEventConfig).beat = s.beat := rfl
@[simp] theorem State.rejectEventConfig_cache : (s.rejectEventConfig).cache = s.cache := rfl
@[simp] theorem State.rejectEventConfig_link : (s.rejectEventConfig).link = s.link := rfl
@[simp] theorem State.rejectEventConfig_engine : (s.rejectEventConfig).engine = s.engine := rfl
@[simp] theorem State.rejectEventConfig_sent : (s.rejectEventConfig).sent = s.sent := rfl
@[simp] theorem State.rejectEventConfig_pending : (s.rejectEventConfig).pending = s.pending := rfl
@[simp] theorem State.rejectEventConfig_place : (s.rejectEventConfig).place = s.place := rfl

@[simp] theorem State.send_sent (m : Message) : (s.send m).sent = s.sent ++ [m] := rfl
@[simp] theorem State.modCache_cache (f : Cache → Cache) : (s.modCache f).cache = f s.cache := rfl
@[simp] theorem State.modBeat_beat (f : Beat → Beat) : (s.modBeat f).beat = s.beat.map f := rfl
@[simp] theorem State.begin_sent : s.begin.sent = [] := rfl
@[simp] theorem State.setPower_device (p : PowerState) : (s.setPower p).device = { s.device with power := p } := rfl
@[simp] theorem State.bumpSequence_sequence : s.bumpSequence.engine.sequence = nextSequence s.engine.sequence := rfl
@[simp] theorem State.postNumbered_engine (v : Event) : (s.postNumbered v).engine = s.engine := rfl

/-! ### Channels -/

@[simp] theorem State.ch_setCh_same (c : Chan) (x : Channel) : (s.setCh c x).ch c = x := by
  simp [State.ch, State.setCh]

theorem State.ch_setCh_ne {c d : Chan} (h : d ≠ c) (x : Channel) : (s.setCh c x).ch d = s.ch d := by
  have h' : c.val ≠ d.val := fun e => h (Fin.ext e.symm)
  simp [State.ch, State.setCh, h']

theorem State.ch_setCh (c d : Chan) (x : Channel) : (s.setCh c x).ch d = if d = c then x else s.ch d := by
  split
  · next h => subst h; exact s.ch_setCh_same d x
  · next h => exact s.ch_setCh_ne h x

@[simp] theorem State.ch_modCh_same (c : Chan) (f : Channel → Channel) : (s.modCh c f).ch c = f (s.ch c) :=
  s.ch_setCh_same c _

theorem State.ch_modCh_ne {c d : Chan} (h : d ≠ c) (f : Channel → Channel) : (s.modCh c f).ch d = s.ch d :=
  s.ch_setCh_ne h _

theorem State.ch_modCh (c d : Chan) (f : Channel → Channel) :
    (s.modCh c f).ch d = if d = c then f (s.ch c) else s.ch d := s.ch_setCh c d _

/-- Two states with the same channels agree on each. -/
theorem State.ch_congr {s t : State} (h : t.chans = s.chans) (c : Chan) : t.ch c = s.ch c := by
  simp [State.ch, h]

@[simp] theorem State.send_ch (m : Message) (c : Chan) : (s.send m).ch c = s.ch c := rfl
@[simp] theorem State.modCache_ch (f : Cache → Cache) (c : Chan) : (s.modCache f).ch c = s.ch c := rfl
@[simp] theorem State.modBeat_ch (f : Beat → Beat) (c : Chan) : (s.modBeat f).ch c = s.ch c := rfl
@[simp] theorem State.ask_ch (r : Req) (c : Chan) : (s.ask r).ch c = s.ch c := rfl
@[simp] theorem State.bumpSequence_ch (c : Chan) : (s.bumpSequence).ch c = s.ch c := rfl
@[simp] theorem State.postNumbered_ch (v : Event) (c : Chan) : (s.postNumbered v).ch c = s.ch c := rfl
@[simp] theorem State.post_ch (v : Event) (c : Chan) : (s.post v).ch c = s.ch c := rfl
@[simp] theorem State.setPower_ch (p : PowerState) (c : Chan) : (s.setPower p).ch c = s.ch c := rfl
@[simp] theorem State.setDormantStep_ch (x : DormantStep) (c : Chan) : (s.setDormantStep x).ch c = s.ch c := rfl
@[simp] theorem State.begin_ch (c : Chan) : (s.begin).ch c = s.ch c := rfl
@[simp] theorem State.age_ch (c : Chan) : (s.age).ch c = s.ch c := rfl
@[simp] theorem State.freeOutstanding_ch (t : TagId) (c : Chan) : (s.freeOutstanding t).ch c = s.ch c := rfl
@[simp] theorem State.wakeDoze_ch (c : Chan) : (s.wakeDoze).ch c = s.ch c := rfl
@[simp] theorem State.late_ch (t : TagId) (gen : Bool) (c : Chan) : (s.late t gen).ch c = s.ch c := rfl
@[simp] theorem State.rejectEventConfig_ch (c : Chan) : (s.rejectEventConfig).ch c = s.ch c := rfl

end Sys2Proof.Machine
end

