-- ==== Sys2Proof/Laws/Settle.lean ====
section
/-! SUPPORT. What the end of a command can do, and a part at rest. -/
namespace Sys2Proof.Machine

/-- One more action of the settle loop. -/
theorem settleLoop_some {n : Nat} {s t : State} (h : s.progress = some t) :
    settleLoop (n + 1) s = settleLoop n t := by
  simp [settleLoop, h]

/-- A part at rest stays as it is. -/
theorem settleLoop_of_rests {s : State} (h : s.Rests) (n : Nat) : settleLoop n s = s := by
  cases n with
  | zero => rfl
  | succ n =>
    unfold State.Rests at h
    simp [settleLoop, h]

/-- A part at rest stays as it is. -/
theorem State.settle_of_rests {s : State} (h : s.Rests) : s.settle = s := settleLoop_of_rests h _

/-- A command after which the part rests ends at once. -/
theorem State.settleClose_of_rests {s : State} (h : s.Rests) : s.settleClose = s.close := by
  unfold State.settleClose
  rw [State.settle_of_rests h]

/-- What holds of a state, and of what one action makes of any state of which it holds, holds when the part has
settled. -/
theorem settleLoop_induction {P : State → Prop} (step : ∀ s t, P s → s.progress = some t → P t) (n : Nat) :
    ∀ s, P s → P (settleLoop n s) := by
  induction n with
  | zero => intro s h; exact h
  | succ n ih =>
    intro s h
    unfold settleLoop
    split
    · next t ht => exact ih t (step s t h ht)
    · exact h

/-- The first step that can be taken is one of the steps. -/
theorem firstStep_mem {s t : State} : ∀ {fs : List (State → Option State)}, firstStep s fs = some t →
    ∃ f ∈ fs, f s = some t
  | [], h => by simp [firstStep] at h
  | f :: fs, h => by
    unfold firstStep at h
    split at h
    · next u hu =>
      refine ⟨f, List.mem_cons_self, ?_⟩
      rw [hu]; exact h
    · obtain ⟨g, hg, e⟩ := firstStep_mem h
      exact ⟨g, List.mem_cons_of_mem _ hg, e⟩

/-- Everything the part can do of its own accord. -/
theorem State.progress_cases {s t : State} (h : s.progress = some t) :
    (∃ c, s.chanStep c = some t) ∨ s.beatStep = some t ∨ s.serve = some t ∨ s.endCommandSweep = some t ∨
      s.startSweep = some t ∨ s.softInitDone = some t ∨ s.quiescingDone = some t ∨ s.dormantNext = some t := by
  obtain ⟨f, hf, e⟩ := firstStep_mem h
  simp only [List.mem_cons, List.not_mem_nil, or_false] at hf
  rcases hf with rfl | rfl | rfl | rfl | rfl | rfl | rfl | rfl | rfl | rfl | rfl
  · exact .inl ⟨0, e⟩
  · exact .inl ⟨1, e⟩
  · exact .inl ⟨2, e⟩
  · exact .inl ⟨3, e⟩
  · exact .inr (.inl e)
  · exact .inr (.inr (.inl e))
  · exact .inr (.inr (.inr (.inl e)))
  · exact .inr (.inr (.inr (.inr (.inl e))))
  · exact .inr (.inr (.inr (.inr (.inr (.inl e)))))
  · exact .inr (.inr (.inr (.inr (.inr (.inr (.inl e))))))
  · exact .inr (.inr (.inr (.inr (.inr (.inr (.inr e))))))

/-! ### The end of a command -/

/-- What the interrupt evaluation can do (R134). -/
theorem State.evalInterrupt_eq (s : State) :
    s.evalInterrupt = { s with
      engine := { s.engine with asserted := s.interruptLevel }
      sent := s.sent ++ interruptMessages s.engine.asserted s.interruptLevel } := by
  unfold State.evalInterrupt interruptMessages
  by_cases h : s.interruptLevel = s.engine.asserted
  · simp [h]
  · simp [h, State.send]

/-! ### The end of a place -/

/-- Everything that the numbers and events of a place leave alone (R128, R131). -/
structure State.SameButEvents (s t : State) : Prop where
  device : t.device = s.device
  chans : t.chans = s.chans
  normalPtr : t.normalPtr = s.normalPtr
  expeditePtr : t.expeditePtr = s.expeditePtr
  beat : t.beat = s.beat
  cache : t.cache = s.cache
  waiting : t.link.waiting = s.link.waiting
  responseTimeout : t.link.responseTimeout = s.link.responseTimeout
  lateCount : t.link.lateCount = s.link.lateCount
  base : t.engine.base = s.engine.base
  size : t.engine.size = s.engine.size
  tail : t.engine.tail = s.engine.tail
  head : t.engine.head = s.engine.head
  fatal : t.engine.fatal = s.engine.fatal
  asserted : t.engine.asserted = s.engine.asserted
  pending : t.pending = s.pending

theorem State.SameButEvents.trans {s t u : State} (h : s.SameButEvents t) (k : t.SameButEvents u) : s.SameButEvents u := by
  constructor
  · rw [k.device, h.device]
  · rw [k.chans, h.chans]
  · rw [k.normalPtr, h.normalPtr]
  · rw [k.expeditePtr, h.expeditePtr]
  · rw [k.beat, h.beat]
  · rw [k.cache, h.cache]
  · rw [k.waiting, h.waiting]
  · rw [k.responseTimeout, h.responseTimeout]
  · rw [k.lateCount, h.lateCount]
  · rw [k.base, h.base]
  · rw [k.size, h.size]
  · rw [k.tail, h.tail]
  · rw [k.head, h.head]
  · rw [k.fatal, h.fatal]
  · rw [k.asserted, h.asserted]
  · rw [k.pending, h.pending]

/-- What accepting an event leaves of the event engine (R131). -/
theorem Engine.accept_rest (e : Engine) (v : Event) :
    e.accept v = { e with
      fifo := (e.accept v).fifo, lost := (e.accept v).lost, lossMark := (e.accept v).lossMark } := by
  unfold Engine.accept Engine.lose
  split
  · rfl
  · split
    · rfl
    · split <;> rfl

/-- What one item of a place can change. -/
theorem State.takeItem_same (s : State) (x : PlaceItem) : s.SameButEvents (s.takeItem x) ∧ (s.takeItem x).place = s.place := by
  cases x with
  | post v =>
    simp only [State.takeItem]
    rw [Engine.accept_rest]
    exact ⟨⟨rfl, rfl, rfl, rfl, rfl, rfl, rfl, rfl, rfl, rfl, rfl, rfl, rfl, rfl, rfl, rfl⟩, trivial⟩
  | numbered v =>
    simp only [State.takeItem]
    rw [Engine.accept_rest]
    exact ⟨⟨rfl, rfl, rfl, rfl, rfl, rfl, rfl, rfl, rfl, rfl, rfl, rfl, rfl, rfl, rfl, rfl⟩, trivial⟩
  | write t c =>
    cases c with
    | some c => exact ⟨⟨rfl, rfl, rfl, rfl, rfl, rfl, rfl, rfl, rfl, rfl, rfl, rfl, rfl, rfl, rfl, rfl⟩, rfl⟩
    | none =>
      simp only [State.takeItem, State.takeOldest]
      split <;> exact ⟨⟨rfl, rfl, rfl, rfl, rfl, rfl, rfl, rfl, rfl, rfl, rfl, rfl, rfl, rfl, rfl, rfl⟩, rfl⟩

/-- What the items of a place can change. -/
theorem takeItems_same (xs : List PlaceItem) :
    ∀ s : State, s.SameButEvents (xs.foldl State.takeItem s) ∧ (xs.foldl State.takeItem s).place = s.place := by
  induction xs with
  | nil => exact fun s => ⟨⟨rfl, rfl, rfl, rfl, rfl, rfl, rfl, rfl, rfl, rfl, rfl, rfl, rfl, rfl, rfl, rfl⟩, rfl⟩
  | cons x xs ih =>
    intro s
    obtain ⟨h, hp⟩ := s.takeItem_same x
    obtain ⟨k, kp⟩ := ih (s.takeItem x)
    exact ⟨h.trans k, kp.trans hp⟩

/-- What the end of a place can change. -/
theorem State.numberPlace_same (s : State) : s.SameButEvents s.numberPlace := by
  have h := (takeItems_same (inPlaceOrder s.place) { s with place := [] }).1
  exact ⟨h.device, h.chans, h.normalPtr, h.expeditePtr, h.beat, h.cache, h.waiting, h.responseTimeout, h.lateCount,
    h.base, h.size, h.tail, h.head, h.fatal, h.asserted, h.pending⟩

@[simp] theorem State.numberPlace_place (s : State) : s.numberPlace.place = [] :=
  (takeItems_same (inPlaceOrder s.place) { s with place := [] }).2

theorem PlaceItem.rank_lt (x : PlaceItem) : x.rank < 7 := by
  have h (c : Option Chan) (k : Nat) (hk : k < 7) : (match c with | some c => c.val | none => k) < 7 := by
    cases c with
    | none => exact hk
    | some c => exact Nat.lt_trans c.isLt (by decide)
  cases x with
  | post v => exact h v.channel _ (by split <;> decide)
  | numbered v => exact h v.channel _ (by split <;> decide)
  | write t c =>
    cases c with
    | none => show 6 < 7; decide
    | some c => exact Nat.lt_trans c.isLt (by decide)

/-- One item is in order by itself. -/
theorem inPlaceOrder_single (x : PlaceItem) : inPlaceOrder [x] = [x] := by
  have h := x.rank_lt
  unfold inPlaceOrder
  generalize hr : x.rank = n at h
  interval_cases n <;> simp [hr, List.range, List.range.loop]

/-- A place in which nothing drew on the event engine. -/
theorem State.numberPlace_of_nil {s : State} (h : s.place = []) : s.numberPlace = s := by
  unfold State.numberPlace
  rw [h]
  show ({ s with place := [] } : State) = s
  rw [← h]

/-- A place in which one event was posted. -/
theorem State.numberPlace_of_post {s : State} {v : Event} (h : s.place = [.post v]) :
    s.numberPlace = { s with
      place := [], engine := s.bumpSequence.engine.accept { v with sequence := s.engine.sequence } } := by
  unfold State.numberPlace
  rw [h, inPlaceOrder_single]
  rfl

theorem State.numberPlace_interruptLevel (s : State) : s.numberPlace.interruptLevel = s.interruptLevel := by
  have h := s.numberPlace_same
  unfold State.interruptLevel
  rw [h.tail, h.head, h.fatal, h.device]

/-- The end of a command, field by field. -/
theorem State.close_eq (s : State) : s.close =
    { s.numberPlace with
      device := s.close.device
      cache := s.cache.aged
      engine := { s.numberPlace.engine with asserted := s.interruptLevel }
      link := s.numberPlace.link.aged
      sent := s.numberPlace.sent ++ interruptMessages s.engine.asserted s.interruptLevel } := by
  unfold State.close
  rw [State.evalInterrupt_eq, s.numberPlace_interruptLevel, s.numberPlace_same.asserted, ← s.numberPlace_same.cache]
  unfold State.checkDoze
  split <;> rfl

@[simp] theorem State.close_chans (s : State) : s.close.chans = s.chans := by
  rw [State.close_eq]; exact s.numberPlace_same.chans
@[simp] theorem State.close_ch (s : State) (c : Chan) : s.close.ch c = s.ch c := State.ch_congr s.close_chans c
@[simp] theorem State.close_cache (s : State) : s.close.cache = s.cache.aged := by rw [State.close_eq]
@[simp] theorem State.close_beat (s : State) : s.close.beat = s.beat := by
  rw [State.close_eq]; exact s.numberPlace_same.beat
@[simp] theorem State.close_normalPtr (s : State) : s.close.normalPtr = s.normalPtr := by
  rw [State.close_eq]; exact s.numberPlace_same.normalPtr
@[simp] theorem State.close_expeditePtr (s : State) : s.close.expeditePtr = s.expeditePtr := by
  rw [State.close_eq]; exact s.numberPlace_same.expeditePtr
@[simp] theorem State.close_pending (s : State) : s.close.pending = s.pending := by
  rw [State.close_eq]; exact s.numberPlace_same.pending
@[simp] theorem State.close_place (s : State) : s.close.place = [] := by
  rw [State.close_eq]; exact s.numberPlace_place
theorem State.close_link (s : State) : s.close.link = s.numberPlace.link.aged := by rw [State.close_eq]
theorem State.close_engine (s : State) :
    s.close.engine = { s.numberPlace.engine with asserted := s.interruptLevel } := by rw [State.close_eq]
theorem State.close_sent (s : State) :
    s.close.sent = s.numberPlace.sent ++ interruptMessages s.engine.asserted s.interruptLevel := by rw [State.close_eq]

/-- The end of a command in which nothing drew on the event engine, field by field. -/
theorem State.close_of_nil {s : State} (h : s.place = []) : s.close =
    { s with
      device := s.close.device
      cache := s.cache.aged
      engine := { s.engine with asserted := s.interruptLevel }
      link := s.link.aged
      sent := s.sent ++ interruptMessages s.engine.asserted s.interruptLevel } := by
  rw [State.close_eq, State.numberPlace_of_nil h]

/-- The power controller at the end of a command: only the Doze timer can change (R161). -/
theorem State.close_device (s : State) :
    s.close.device =
      if s.numberPlace.evalInterrupt.age.dozeCondition then s.device else { s.device with dozeTimer := 0 } := by
  have h := s.numberPlace_same.device
  unfold State.close State.checkDoze
  split <;> rw [State.evalInterrupt_eq, ← h] <;> rfl

/-- With the timer at 0, the end of a command leaves the power controller alone. -/
theorem State.close_device_of_zero (s : State) (h : s.device.dozeTimer = 0) : s.close.device = s.device := by
  rw [State.close_device]
  split
  · rfl
  · rw [← h]

end Sys2Proof.Machine
end

