-- ==== Sys2Proof/Laws/Exec.lean ====
section
/-! SUPPORT. The meaning each arm of `exec` calls, and the commands that are RegWrites. -/
namespace Sys2Proof.Machine

variable (s : State)

theorem exec_powerOnReset : exec .powerOnReset s = execPowerOnReset s := rfl
theorem exec_deviceReset (word : Word32) : exec (.deviceReset word) s = execDeviceReset word s := rfl
theorem exec_softInit (word : Word32) : exec (.softInit word) s = execSoftInit word s := rfl
theorem exec_quiesce (word : Word32) : exec (.quiesce word) s = execQuiesce word s := rfl
theorem exec_quiesceRelease (word : Word32) : exec (.quiesceRelease word) s = execQuiesceRelease word s := rfl
theorem exec_dormant (word : Word32) : exec (.dormant word) s = execDormant word s := rfl
theorem exec_wake (word : Word32) : exec (.wake word) s = execWake word s := rfl
theorem exec_wakeComplete : exec .wakeComplete s = execWakeComplete s := rfl
theorem exec_interruptEnable (on : Bool) : exec (.interruptEnable on) s = execInterruptEnable on s := rfl
theorem exec_flushAndInvalidate (prefetch : Bool) : exec (.flushAndInvalidate prefetch) s = execFlushAndInvalidate prefetch s := rfl
theorem exec_siblingPrefetchEnable (on : Bool) : exec (.siblingPrefetchEnable on) s = execSiblingPrefetchEnable on s := rfl
theorem exec_enable (c : Chan) : exec (.enable c) s = execEnable c s := rfl
theorem exec_disable (c : Chan) : exec (.disable c) s = execDisable c s := rfl
theorem exec_reset (c : Chan) : exec (.reset c) s = execReset c s := rfl
theorem exec_park (c : Chan) : exec (.park c) s = execPark c s := rfl
theorem exec_unpark (c : Chan) : exec (.unpark c) s = execUnpark c s := rfl
theorem exec_resumeRetry (c : Chan) : exec (.resumeRetry c) s = execResumeRetry c s := rfl
theorem exec_resumeSkip (c : Chan) : exec (.resumeSkip c) s = execResumeSkip c s := rfl
theorem exec_resumeSubstitute (c : Chan) : exec (.resumeSubstitute c) s = execResumeSubstitute c s := rfl
theorem exec_resumeAbandon (c : Chan) : exec (.resumeAbandon c) s = execResumeAbandon c s := rfl
theorem exec_ringProducer (c : Chan) (value : Word32) : exec (.ringProducer c value) s = execRingProducer c value s := rfl
theorem exec_expediteProducer (c : Chan) (value : Word32) : exec (.expediteProducer c value) s = execExpediteProducer c value s := rfl
theorem exec_ringSize (c : Chan) (value : Word32) : exec (.ringSize c value) s = execRingSize c value s := rfl
theorem exec_expediteSize (c : Chan) (value : Word32) : exec (.expediteSize c value) s = execExpediteSize c value s := rfl
theorem exec_ringBase (c : Chan) (half : Half) (value : Word32) : exec (.ringBase c half value) s = execRingBase c half value s := rfl
theorem exec_expediteBase (c : Chan) (half : Half) (value : Word32) : exec (.expediteBase c half value) s = execExpediteBase c half value s := rfl
theorem exec_compact (c : Chan) (on : Bool) : exec (.compact c on) s = execCompact c on s := rfl
theorem exec_csbAddress (c : Chan) (half : Half) (value : Word32) : exec (.csbAddress c half value) s = execCsbAddress c half value s := rfl
theorem exec_apertureBase (c : Chan) (a : WayId) (half : Half) (value : Word32) : exec (.apertureBase c a half value) s = execApertureBase c a half value s := rfl
theorem exec_apertureLimit (c : Chan) (a : WayId) (half : Half) (value : Word32) : exec (.apertureLimit c a half value) s = execApertureLimit c a half value s := rfl
theorem exec_apertureControl (c : Chan) (a : WayId) (value : Word32) : exec (.apertureControl c a value) s = execApertureControl c a value s := rfl
theorem exec_acw (c : Chan) (value : Word32) : exec (.acw c value) s = execAcw c value s := rfl
theorem exec_eventQueueSize (value : Word32) : exec (.eventQueueSize value) s = execEventQueueSize value s := rfl
theorem exec_eventQueueBase (half : Half) (value : Word32) : exec (.eventQueueBase half value) s = execEventQueueBase half value s := rfl
theorem exec_eventHead (value : Word32) : exec (.eventHead value) s = execEventHead value s := rfl
theorem exec_lostEvents (value : Word32) : exec (.lostEvents value) s = execLostEvents value s := rfl
theorem exec_lateResponseCount (value : Word32) : exec (.lateResponseCount value) s = execLateResponseCount value s := rfl
theorem exec_lostWriteBackCount (value : Word32) : exec (.lostWriteBackCount value) s = execLostWriteBackCount value s := rfl
theorem exec_siblingPrefetchFailCount (value : Word32) : exec (.siblingPrefetchFailCount value) s = execSiblingPrefetchFailCount value s := rfl
theorem exec_deviceStatus (value : Word32) : exec (.deviceStatus value) s = execDeviceStatus value s := rfl
theorem exec_channelStatus (c : Chan) (value : Word32) : exec (.channelStatus c value) s = execChannelStatus c value s := rfl
theorem exec_partialRegisterWrite (offset : BitVec 12) (enables : BitVec 4) (value : Word32) : exec (.partialRegisterWrite offset enables value) s = execPartialRegisterWrite offset enables value s := rfl
theorem exec_registerWrite (offset : BitVec 12) (value : Word32) : exec (.registerWrite offset value) s = execRegisterWrite offset value s := rfl
theorem exec_probeShare (address : Word64) : exec (.probeShare address) s = execProbeShare address s := rfl
theorem exec_probeInvalidate (address : Word64) : exec (.probeInvalidate address) s = execProbeInvalidate address s := rfl
theorem exec_beatGrant : exec .beatGrant s = execBeatGrant s := rfl
theorem exec_fetchSharedData (tag : TagId) (gen : Bool) (grant : Grant) (bytes : Line) : exec (.fetchSharedData tag gen grant bytes) s = execFetchSharedData tag gen grant bytes s := rfl
theorem exec_siblingPrefetchData (tag : TagId) (gen : Bool) (grant : Grant) (bytes : Line) : exec (.siblingPrefetchData tag gen grant bytes) s = execSiblingPrefetchData tag gen grant bytes s := rfl
theorem exec_fetchOwnedData (tag : TagId) (gen : Bool) (grant : Grant) (bytes : Line) : exec (.fetchOwnedData tag gen grant bytes) s = execFetchOwnedData tag gen grant bytes s := rfl
theorem exec_upgradeDone (tag : TagId) (gen : Bool) : exec (.upgradeDone tag gen) s = execUpgradeDone tag gen s := rfl
theorem exec_upgradeData (tag : TagId) (gen : Bool) (grant : Grant) (bytes : Line) : exec (.upgradeData tag gen grant bytes) s = execUpgradeData tag gen grant bytes s := rfl
theorem exec_readDirectData (tag : TagId) (gen : Bool) (grant : Grant) (bytes : Line) : exec (.readDirectData tag gen grant bytes) s = execReadDirectData tag gen grant bytes s := rfl
theorem exec_descriptorHalfData (tag : TagId) (gen : Bool) (grant : Grant) (bytes : Line) : exec (.descriptorHalfData tag gen grant bytes) s = execDescriptorHalfData tag gen grant bytes s := rfl
theorem exec_csbReadData (tag : TagId) (gen : Bool) (grant : Grant) (bytes : Line) : exec (.csbReadData tag gen grant bytes) s = execCsbReadData tag gen grant bytes s := rfl
theorem exec_bypassWriteDone (tag : TagId) (gen : Bool) : exec (.bypassWriteDone tag gen) s = execBypassWriteDone tag gen s := rfl
theorem exec_completionRecordDone (tag : TagId) (gen : Bool) : exec (.completionRecordDone tag gen) s = execCompletionRecordDone tag gen s := rfl
theorem exec_csbWriteDone (tag : TagId) (gen : Bool) : exec (.csbWriteDone tag gen) s = execCsbWriteDone tag gen s := rfl
theorem exec_eventRecordDone (tag : TagId) (gen : Bool) : exec (.eventRecordDone tag gen) s = execEventRecordDone tag gen s := rfl
theorem exec_writelineDone (tag : TagId) (gen : Bool) : exec (.writelineDone tag gen) s = execWritelineDone tag gen s := rfl
theorem exec_fetchFail (tag : TagId) (gen : Bool) (reason : FailReason) : exec (.fetchFail tag gen reason) s = execFetchFail tag gen reason s := rfl
theorem exec_siblingPrefetchFail (tag : TagId) (gen : Bool) (reason : FailReason) : exec (.siblingPrefetchFail tag gen reason) s = execSiblingPrefetchFail tag gen reason s := rfl
theorem exec_descriptorFetchFail (tag : TagId) (gen : Bool) (reason : FailReason) : exec (.descriptorFetchFail tag gen reason) s = execDescriptorFetchFail tag gen reason s := rfl
theorem exec_csbReadFail (tag : TagId) (gen : Bool) (reason : FailReason) : exec (.csbReadFail tag gen reason) s = execCsbReadFail tag gen reason s := rfl
theorem exec_bypassWriteFail (tag : TagId) (gen : Bool) (reason : FailReason) : exec (.bypassWriteFail tag gen reason) s = execBypassWriteFail tag gen reason s := rfl
theorem exec_completionRecordFail (tag : TagId) (gen : Bool) (reason : FailReason) : exec (.completionRecordFail tag gen reason) s = execCompletionRecordFail tag gen reason s := rfl
theorem exec_csbWriteFail (tag : TagId) (gen : Bool) (reason : FailReason) : exec (.csbWriteFail tag gen reason) s = execCsbWriteFail tag gen reason s := rfl
theorem exec_eventRecordFail (tag : TagId) (gen : Bool) (reason : FailReason) : exec (.eventRecordFail tag gen reason) s = execEventRecordFail tag gen reason s := rfl
theorem exec_writelineFail (tag : TagId) (gen : Bool) (reason : FailReason) : exec (.writelineFail tag gen reason) s = execWritelineFail tag gen reason s := rfl
theorem exec_lateResponse (tag : TagId) (gen : Bool) (resp : Response) : exec (.lateResponse tag gen resp) s = execLateResponse tag gen resp s := rfl
theorem exec_responseTimeout (tag : TagId) : exec (.responseTimeout tag) s = execResponseTimeout tag s := rfl
theorem exec_doze : exec .doze s = execDoze s := rfl
theorem exec_sweepSet : exec .sweepSet s = execSweepSet s := rfl
theorem exec_eventRecordWrite : exec .eventRecordWrite s = execEventRecordWrite s := rfl

/-- No command faults and none is refused: every command answers a next state. -/
theorem exec_next (i : Instr) : ∃ t, exec i s = .next t := by
  cases i <;> exact ⟨_, rfl⟩

end Sys2Proof.Machine
end

