-- ==== Sys2Proof/Laws/Registers.lean ====
section
/-! SUPPORT. What a RegWrite does before the part goes on: one lemma per kind of register, to be cited in place of
unfolding `State.offer`. -/
namespace Sys2Proof.Machine

variable {s : State}

/-- A command that begins with a RegWrite (R161, R162). -/
theorem State.begin_wakeDoze (s : State) : s.begin.wakeDoze = { s.fresh with device := s.device.touched } := by
  simp [State.begin, State.wakeDoze, Device.touched, State.fresh]

/-- Doze ends before Dormant and Waking are looked at; they are not ended by a write. -/
theorem State.wakeDoze_asleep (s : State) : s.begin.wakeDoze.asleep = s.asleep := by
  have h : ∀ p : PowerState, ((if p == .doze then PowerState.active else p) == .dormant ||
      (if p == .doze then PowerState.active else p) == .waking) = (p == .dormant || p == .waking) := by
    intro p; cases p <;> rfl
  exact h _

/-- A RegWrite in a power state in which every register responds (R158). -/
theorem State.offer_awake (h : s.asleep = false) (r : Reg) (v : Word32) :
    s.offer (some r) v = ((s.begin.wakeDoze).writeReg r v).send .regDone := by
  simp [State.offer, State.wakeDoze_asleep, h]

/-- A RegWrite in Dormant or Waking that is not for Device Control (R168). -/
theorem State.offer_asleep (h : s.asleep = true) {r : Option Reg} (hr : r ≠ some .deviceControl) (v : Word32) :
    s.offer r v =
      { s.acknowledged with device := { s.device.touched with dormantAccess := true } } := by
  have e : (r != some Reg.deviceControl) = true := by simpa using hr
  unfold State.offer
  simp only [State.wakeDoze_asleep, h, e, Bool.and_self, if_true]
  rw [State.begin_wakeDoze]; rfl

/-- A RegWrite to an offset where no register lies (R158). -/
theorem State.offer_none (h : s.asleep = false) (v : Word32) : s.offer none v = s.acknowledged := by
  unfold State.offer
  simp only [State.wakeDoze_asleep, h, Bool.false_and]
  rw [State.begin_wakeDoze]; rfl

/-- Device Control responds in every power state (R168). -/
theorem State.offer_deviceControl (s : State) (v : Word32) :
    s.offer (some .deviceControl) v = ((s.begin.wakeDoze).deviceControl v).send .regDone := by
  simp [State.offer, State.writeReg]

/-- A RegWrite to a channel register whose rule is the function `f` of the channel. -/
theorem State.offer_modCh (h : s.asleep = false) {r : Reg} {v : Word32} {c : Chan} {f : Channel → Channel}
    (w : ∀ u : State, u.writeReg r v = u.modCh c f) : s.offer (some r) v = s.acknowledged.setCh c (f (s.ch c)) := by
  rw [State.offer_awake h, w, State.begin_wakeDoze]; rfl

/-- A RegWrite to a register of the event engine. -/
theorem State.acknowledged_of_begin (s : State) (e : Engine) :
    ({ s.begin.wakeDoze with engine := e } : State).send .regDone = { s.acknowledged with engine := e } := by
  rw [State.begin_wakeDoze]; rfl

@[simp] theorem State.acknowledged_ch (s : State) (c : Chan) : s.acknowledged.ch c = s.ch c := rfl
@[simp] theorem State.acknowledged_device (s : State) : s.acknowledged.device = s.device.touched := rfl
@[simp] theorem State.acknowledged_engine (s : State) : s.acknowledged.engine = s.engine := rfl
@[simp] theorem State.acknowledged_cache (s : State) : s.acknowledged.cache = s.cache := rfl
@[simp] theorem State.acknowledged_link (s : State) : s.acknowledged.link = s.link := rfl
@[simp] theorem State.acknowledged_beat (s : State) : s.acknowledged.beat = s.beat := rfl
@[simp] theorem State.acknowledged_pending (s : State) : s.acknowledged.pending = s.pending := rfl
@[simp] theorem State.acknowledged_place (s : State) : s.acknowledged.place = [] := rfl
@[simp] theorem State.acknowledged_sent (s : State) : s.acknowledged.sent = [.regDone] := rfl

end Sys2Proof.Machine
end

