-- ==== Sys2Proof/Laws/Link.lean ====
section
/-! SUPPORT. Tags, the records they hold, and the changes made to all of them. -/
namespace Sys2Proof.Machine

/-- Read after write of a tag. -/
theorem Link.tag_putTag (l : Link) (t u : TagId) (x : Tag) : (l.putTag u x).tag t = if t = u then x else l.tag t := by
  simp only [Link.tag, Link.putTag, Vector.getElem_set]
  by_cases h : t = u
  · simp [h]
  · have : u.val ≠ t.val := fun e => h (Fin.ext e.symm)
    simp [h, this]

/-- Every tag is in the list of all tags, once. -/
theorem mem_allTags (t : TagId) : t ∈ allTags := by revert t; decide

/-- Every tag is in the list of all tags, once. -/
theorem nodup_allTags : allTags.Nodup := by decide

/-- A change made to each tag of a list in turn. -/
theorem Link.tag_foldl {g : Link → TagId → Link} {f : Tag → Tag}
    (hg : ∀ l t u, (g l u).tag t = if t = u then f (l.tag u) else l.tag t) (t : TagId) :
    ∀ (ts : List TagId) (l : Link), ts.Nodup → (ts.foldl g l).tag t = if t ∈ ts then f (l.tag t) else l.tag t
  | [], l, _ => by simp
  | a :: ts, l, hn => by
    rw [List.foldl_cons, Link.tag_foldl hg t ts _ (List.nodup_cons.1 hn).2, hg]
    by_cases h : t = a
    · subst h
      have : t ∉ ts := (List.nodup_cons.1 hn).1
      simp [this]
    · simp [h]

/-- A Device Reset does to every tag what expiry does to an outstanding one (R159). -/
theorem Link.deviceReset_tag (l : Link) (t : TagId) : l.deviceReset.tag t = (l.tag t).abandon := by
  have h := Link.tag_foldl (g := fun l t => l.putTag t (l.tag t).abandon) (f := Tag.abandon)
    (fun l t u => by rw [Link.tag_putTag]) t allTags l nodup_allTags
  rw [if_pos (mem_allTags t)] at h
  exact h

/-- A change of every outstanding request changes the records of the tags and nothing else of them. -/
theorem Link.mapOutstanding_tag (l : Link) (f : Req → Req) (t : TagId) :
    (l.mapOutstanding f).tag t =
      { l.tag t with record := (l.tag t).record.map fun r => { r with req := f r.req } } := by
  have h := Link.tag_foldl
    (g := fun l t => match (l.tag t).record with
      | some r => l.putTag t { l.tag t with record := some { r with req := f r.req } }
      | none => l)
    (f := fun x => { x with record := x.record.map fun r => { r with req := f r.req } })
    (fun l t u => by
      cases e : (l.tag u).record with
      | none =>
        by_cases h : t = u
        · subst h; simp; rw [← e]
        · simp [h]
      | some r =>
        simp only [Link.tag_putTag]
        by_cases h : t = u
        · simp [h]
        · simp [h]) t allTags l nodup_allTags
  rw [if_pos (mem_allTags t)] at h
  exact h

/-- A fold of changes of the tags keeps the rest of the link. -/
theorem Link.foldl_keeps {g : Link → TagId → Link} {α : Type} {p : Link → α} (hg : ∀ l t, p (g l t) = p l) :
    ∀ (ts : List TagId) (l : Link), p (ts.foldl g l) = p l
  | [], _ => rfl
  | a :: ts, l => by rw [List.foldl_cons, Link.foldl_keeps hg ts, hg]

/-- A change of every outstanding request leaves the rest of the link alone. -/
theorem Link.mapOutstanding_rest (l : Link) (f : Req → Req) :
    (l.mapOutstanding f).waiting = l.waiting ∧ (l.mapOutstanding f).responseTimeout = l.responseTimeout ∧
      (l.mapOutstanding f).lateCount = l.lateCount := by
  refine ⟨?_, ?_, ?_⟩ <;>
    exact Link.foldl_keeps (fun l t => by cases h : (l.tag t).record <;> simp [Link.putTag]) allTags l

end Sys2Proof.Machine
end

