-- ==== Sys2Proof/Laws/Cache.lean ====
section
/-! SUPPORT. Read after write of the operand cache (R136): sets, ways and lines. -/
namespace Sys2Proof.Machine

/-- Every sweep request ranks at most as high as the command. -/
theorem SweepKind.rank_le (k : SweepKind) : k.rank ≤ 4 := by
  cases k with
  | flush c => exact Nat.le_of_lt c.isLt
  | command => exact Nat.le_refl 4
  | dormantEntry => exact Nat.le_refl 4

/-- A Flush and Invalidate request enters the sweep queue last (R144). -/
@[simp] theorem enterQueue_command (b : Bool) : ∀ q, enterQueue { kind := .command, fresh := b } q =
    q ++ [{ kind := .command, fresh := b }]
  | [] => rfl
  | x :: xs => by
    have h : ¬ SweepKind.command.rank < x.kind.rank := Nat.not_lt.mpr x.kind.rank_le
    simp [enterQueue, h, enterQueue_command b xs]

/-- A request into a queue of older ones enters it last (R144). -/
theorem enterQueue_aged (r : SweepReq) : ∀ q, (∀ x ∈ q, x.fresh = false) → enterQueue r q = q ++ [r]
  | [], _ => rfl
  | x :: xs, h => by
    simp [enterQueue, h x (by simp), enterQueue_aged r xs fun y hy => h y (by simp [hy])]

/-- Read after write of a set. -/
theorem Cache.set_putSet (k : Cache) (i j : SetId) (x : CacheSet) :
    (k.putSet j x).set i = if i = j then x else k.set i := by
  simp only [Cache.set, Cache.putSet, Vector.getElem_set]
  by_cases h : i = j
  · simp [h]
  · have : j.val ≠ i.val := fun e => h (Fin.ext e.symm)
    simp [h, this]

/-- Read after write of a way. -/
theorem CacheSet.way_putWay (x : CacheSet) (v w : WayId) (y : CacheWay) :
    (x.putWay w y).way v = if v = w then y else x.way v := by
  simp only [CacheSet.way, CacheSet.putWay, Vector.getElem_set]
  by_cases h : v = w
  · simp [h]
  · have : w.val ≠ v.val := fun e => h (Fin.ext e.symm)
    simp [h, this]

/-- Read after write of a line of a way. -/
theorem CacheWay.line_setLine (y : CacheWay) (up vp : Bool) (l : CacheLine) :
    (y.setLine vp l).line up = if up = vp then l else y.line up := by
  cases up <;> cases vp <;> simp [CacheWay.line, CacheWay.setLine]

@[simp] theorem CacheWay.setLine_tag (y : CacheWay) (up : Bool) (l : CacheLine) : (y.setLine up l).tag = y.tag := by
  cases up <;> rfl

@[simp] theorem CacheWay.setLine_tagValid (y : CacheWay) (up : Bool) (l : CacheLine) :
    (y.setLine up l).tagValid = y.tagValid := by cases up <;> rfl

/-- A way whose tag stays keeps every tag hit of its set. -/
theorem CacheSet.findWay_putWay (x : CacheSet) (w : WayId) (y : CacheWay) (tag : Nat)
    (ht : y.tag = (x.way w).tag) (hv : y.tagValid = (x.way w).tagValid) :
    (x.putWay w y).findWay tag = x.findWay tag := by
  unfold CacheSet.findWay
  congr 1
  funext v
  rw [CacheSet.way_putWay]
  by_cases h : v = w
  · subst h; simp [ht, hv]
  · simp [h]

/-- A change of a line keeps every tag hit. -/
theorem Cache.findWay_modLine (k : Cache) (n m : Nat) (f : CacheLine → CacheLine) :
    (k.modLine n f).findWay m = k.findWay m := by
  unfold Cache.modLine
  cases k.findWay n with
  | none => rfl
  | some w =>
    simp only [Cache.findWay, Cache.set_putSet]
    by_cases hs : lineSet m = lineSet n
    · rw [if_pos hs, hs]
      exact CacheSet.findWay_putWay _ _ _ _ (by simp) (by simp)
    · rw [if_neg hs]

/-- A line number is its set, its tag and its half of the sector (R136). -/
theorem line_ext {m n : Nat} (hs : lineSet m = lineSet n) (ht : lineTag m = lineTag n)
    (hu : lineUpper m = lineUpper n) : m = n := by
  have hs' := congrArg Fin.val hs
  simp only [lineSet, setOf, lineTag, lineUpper, beq_eq_beq] at hs' ht hu
  omega

/-- A tag hit is on a way with that tag. -/
theorem CacheSet.findWay_tag {x : CacheSet} {tag : Nat} {w : WayId} (h : x.findWay tag = some w) :
    (x.way w).tag = tag := by
  have := List.find?_some h
  simp at this
  exact this.2

/-- Read after write of a line: the line named changes, no other does. -/
theorem Cache.line_modLine (k : Cache) (n m : Nat) (f : CacheLine → CacheLine) :
    (k.modLine n f).line m = if m = n then (k.line m).map f else k.line m := by
  unfold Cache.line
  rw [Cache.findWay_modLine]
  unfold Cache.modLine
  cases hw : k.findWay n with
  | none =>
    by_cases h : m = n
    · subst h; simp [hw]
    · simp [h]
  | some w =>
    cases hv : k.findWay m with
    | none => simp
    | some v =>
      simp only [Option.map_some, Cache.set_putSet]
      by_cases hs : lineSet m = lineSet n
      · rw [if_pos hs, CacheSet.way_putWay, ← hs]
        by_cases hvw : v = w
        · subst hvw
          rw [if_pos rfl, CacheWay.line_setLine]
          have ht : lineTag m = lineTag n := by
            unfold Cache.findWay at hw hv
            rw [← CacheSet.findWay_tag hw, ← CacheSet.findWay_tag hv, hs]
          by_cases hu : lineUpper m = lineUpper n
          · have := line_ext hs ht hu
            subst this
            simp
          · have : m ≠ n := fun e => hu (by rw [e])
            simp [hu, this]
        · have : m ≠ n := by
            intro e; subst e; rw [hw] at hv; exact hvw (Option.some.inj hv).symm
          simp [hvw, this]
      · have : m ≠ n := fun e => hs (by rw [e])
        simp [hs, this]

/-- A change of a line keeps everything but the lines. -/
theorem Cache.modLine_rest (k : Cache) (n : Nat) (f : CacheLine → CacheLine) :
    (k.modLine n f) = { k with sets := (k.modLine n f).sets } := by
  unfold Cache.modLine
  cases k.findWay n <;> rfl

/-- A change of a line keeps the order of use of every set (R137). -/
theorem Cache.modLine_lru (k : Cache) (n : Nat) (f : CacheLine → CacheLine) (i : SetId) :
    ((k.modLine n f).set i).lru = (k.set i).lru := by
  unfold Cache.modLine
  cases k.findWay n with
  | none => rfl
  | some w =>
    simp only [Cache.set_putSet]
    by_cases h : i = lineSet n
    · simp [h, CacheSet.putWay]
    · simp [h]

end Sys2Proof.Machine
end

