-- ==== Sys2Proof/Laws/Commands.lean ====
section
/-! SUPPORT. The words of Device Control writes, and how a command written to Channel Command is judged: to be cited in
place of unfolding `State.deviceControl`, `State.command` and `State.judge`. -/
namespace Sys2Proof.Machine

/-- Setting one bit of a word sets that bit and no other. -/
theorem getElem_withBit (w : Word32) (k i : Fin 32) : (withBit w k.val)[i.val] = (w[i.val] || decide (i = k)) := by
  unfold withBit
  rw [BitVec.getElem_or]
  congr 1
  revert i k; decide

/-- Clearing bit 0 of a word clears that bit and no other. -/
theorem getElem_clearBit (w : Word32) (i : Fin 32) : (w &&& ~~~1#32)[i.val] = (w[i.val] && decide (i ≠ 0)) := by
  rw [BitVec.getElem_and]
  congr 1
  revert i; decide

/-- Two changes of one channel are the second. -/
@[simp] theorem State.setCh_setCh (s : State) (c : Chan) (x y : Channel) : (s.setCh c x).setCh c y = s.setCh c y := by
  simp [State.setCh]

/-- Writing a channel back changes nothing. -/
@[simp] theorem State.setCh_ch (s : State) (c : Chan) : s.setCh c (s.ch c) = s := by
  simp [State.setCh, State.ch]

/-- In Active and Doze every register responds. -/
theorem State.awake_of_active {s : State} (h : s.device.power = .active ∨ s.device.power = .doze) :
    s.asleep = false := by
  rcases h with h | h <;> simp [State.asleep, h]

/-- A RegWrite to Channel Command in a power state in which it reaches the channel (R27, R168). -/
theorem State.commandWrite_awake {s : State} (h : s.asleep = false) (c : Chan) (cmd : ChanCmd) :
    s.commandWrite c cmd = (((s.begin.wakeDoze).command c cmd).send .regDone).settleClose := by
  unfold State.commandWrite State.regWriteSettle
  rw [State.offer_awake h]
  cases cmd <;> rfl

/-- A command judged by its own rule (R27): neither deferred, nor refused because of Fatal. -/
theorem State.judge_eq {s : State} (hf : s.engine.fatal = false) (c : Chan) {cmd : ChanCmd} (hr : cmd ≠ .reset) :
    s.judge c cmd =
      if (s.ch c).state = .error then s.reject c .channelInError
      else
        match (s.ch c).refusal cmd with
        | some r => s.reject c r
        | none => s.accept c cmd := by
  have h : (cmd == ChanCmd.reset) = false := by simpa using hr
  unfold State.judge
  rw [h, hf]
  by_cases e : (s.ch c).state = .error
  · simp [e]
  · cases (s.ch c).refusal cmd <;> simp [e]

/-- A command written to a channel that is not in Faulted is only judged (R124). -/
theorem State.judgeNow_eq {s : State} {c : Chan} (h : (s.ch c).state ≠ .faulted) (cmd : ChanCmd) :
    s.judgeNow c cmd = s.judge c cmd := by
  unfold State.judgeNow
  simp [h]

/-- A command written to a channel in Faulted also acts on a latched expedite doorbell (R124; log 42). -/
theorem State.judgeNow_faulted {s : State} {c : Chan} (h : (s.ch c).state = .faulted) (cmd : ChanCmd) :
    s.judgeNow c cmd = (s.judge c cmd).modCh c Channel.claimLatched := by
  unfold State.judgeNow
  simp [h]

/-- A command written to Channel Command in Active or Doze while the device is not Fatal (R27, R163). -/
theorem State.commandWrite_judged {s : State} (hp : s.device.power = .active ∨ s.device.power = .doze)
    (c : Chan) (cmd : ChanCmd) :
    s.commandWrite c cmd = (((s.begin.wakeDoze).judgeNow c cmd).send .regDone).settleClose := by
  rw [State.commandWrite_awake (State.awake_of_active hp)]
  have h : (s.begin.wakeDoze).device.power.defers = false := by
    rw [State.begin_wakeDoze]; rcases hp with h | h <;> simp [Device.touched, h, PowerState.defers]
  unfold State.command
  simp only [h, Bool.not_false, Bool.or_true, if_true]

/-- A rejection ends as a change of the last rejection reason. -/
theorem State.reject_send (s : State) (c : Chan) (r : Reason) :
    ((s.begin.wakeDoze).reject c r).send .regDone = s.acknowledged.setCh c { s.ch c with reason := r } := by
  rw [State.begin_wakeDoze]; rfl

/-- A change of one channel, answered. -/
theorem State.setCh_send (s : State) (c : Chan) (h : Channel) :
    ((s.begin.wakeDoze).setCh c h).send .regDone = s.acknowledged.setCh c h := by
  rw [State.begin_wakeDoze]; rfl

end Sys2Proof.Machine
end

