-- ==== Sys2Proof/Laws/PerInstr.lean ====
section
/-! SUPPORT. What holds of every command as syntax: one lemma per constructor. -/
namespace Sys2Proof

/-- The reason of a Fail that a command carries, if it carries one. -/
def Instr.failReason : Instr → Option FailReason
  | .powerOnReset => none
  | .deviceReset _ => none
  | .softInit _ => none
  | .quiesce _ => none
  | .quiesceRelease _ => none
  | .dormant _ => none
  | .wake _ => none
  | .wakeComplete => none
  | .interruptEnable _ => none
  | .flushAndInvalidate _ => none
  | .siblingPrefetchEnable _ => none
  | .enable _ => none
  | .disable _ => none
  | .reset _ => none
  | .park _ => none
  | .unpark _ => none
  | .resumeRetry _ => none
  | .resumeSkip _ => none
  | .resumeSubstitute _ => none
  | .resumeAbandon _ => none
  | .ringProducer _ _ => none
  | .expediteProducer _ _ => none
  | .ringSize _ _ => none
  | .expediteSize _ _ => none
  | .ringBase _ _ _ => none
  | .expediteBase _ _ _ => none
  | .compact _ _ => none
  | .csbAddress _ _ _ => none
  | .apertureBase _ _ _ _ => none
  | .apertureLimit _ _ _ _ => none
  | .apertureControl _ _ _ => none
  | .acw _ _ => none
  | .eventQueueSize _ => none
  | .eventQueueBase _ _ => none
  | .eventHead _ => none
  | .lostEvents _ => none
  | .lateResponseCount _ => none
  | .lostWriteBackCount _ => none
  | .siblingPrefetchFailCount _ => none
  | .deviceStatus _ => none
  | .channelStatus _ _ => none
  | .partialRegisterWrite _ _ _ => none
  | .registerWrite _ _ => none
  | .probeShare _ => none
  | .probeInvalidate _ => none
  | .beatGrant => none
  | .fetchSharedData _ _ _ _ => none
  | .siblingPrefetchData _ _ _ _ => none
  | .fetchOwnedData _ _ _ _ => none
  | .upgradeDone _ _ => none
  | .upgradeData _ _ _ _ => none
  | .readDirectData _ _ _ _ => none
  | .descriptorHalfData _ _ _ _ => none
  | .csbReadData _ _ _ _ => none
  | .bypassWriteDone _ _ => none
  | .completionRecordDone _ _ => none
  | .csbWriteDone _ _ => none
  | .eventRecordDone _ _ => none
  | .writelineDone _ _ => none
  | .fetchFail _ _ reason => some reason
  | .siblingPrefetchFail _ _ reason => some reason
  | .descriptorFetchFail _ _ reason => some reason
  | .csbReadFail _ _ reason => some reason
  | .bypassWriteFail _ _ reason => some reason
  | .completionRecordFail _ _ reason => some reason
  | .csbWriteFail _ _ reason => some reason
  | .eventRecordFail _ _ reason => some reason
  | .writelineFail _ _ reason => some reason
  | .lateResponse _ _ (.fail reason) => some reason
  | .lateResponse _ _ _ => none
  | .responseTimeout _ => none
  | .doze => none
  | .sweepSet => none
  | .eventRecordWrite => none

end Sys2Proof

namespace Sys2Proof.Laws.Family

/-- A well-formed command never carries the reason Timeout, which is the part's own (R151, R156). -/
def Statement (i : Instr) : Prop := i.wellFormed = true → i.failReason ≠ some .timeout


/-- A reason the host can send is not Timeout. -/
theorem reason_of_link {r : FailReason} (h : linkReason r = true) : some r ≠ some FailReason.timeout := by
  cases r <;> simp_all [linkReason]

/-- A command without a reason. -/
theorem no_reason : (none : Option FailReason) ≠ some .timeout := by decide

theorem powerOnReset : Statement .powerOnReset := fun _ => no_reason
theorem deviceReset (word : Word32) : Statement (.deviceReset word) := fun _ => no_reason
theorem softInit (word : Word32) : Statement (.softInit word) := fun _ => no_reason
theorem quiesce (word : Word32) : Statement (.quiesce word) := fun _ => no_reason
theorem quiesceRelease (word : Word32) : Statement (.quiesceRelease word) := fun _ => no_reason
theorem dormant (word : Word32) : Statement (.dormant word) := fun _ => no_reason
theorem wake (word : Word32) : Statement (.wake word) := fun _ => no_reason
theorem wakeComplete : Statement .wakeComplete := fun _ => no_reason
theorem interruptEnable (on : Bool) : Statement (.interruptEnable on) := fun _ => no_reason
theorem flushAndInvalidate (prefetch : Bool) : Statement (.flushAndInvalidate prefetch) := fun _ => no_reason
theorem siblingPrefetchEnable (on : Bool) : Statement (.siblingPrefetchEnable on) := fun _ => no_reason
theorem enable (c : Chan) : Statement (.enable c) := fun _ => no_reason
theorem disable (c : Chan) : Statement (.disable c) := fun _ => no_reason
theorem reset (c : Chan) : Statement (.reset c) := fun _ => no_reason
theorem park (c : Chan) : Statement (.park c) := fun _ => no_reason
theorem unpark (c : Chan) : Statement (.unpark c) := fun _ => no_reason
theorem resumeRetry (c : Chan) : Statement (.resumeRetry c) := fun _ => no_reason
theorem resumeSkip (c : Chan) : Statement (.resumeSkip c) := fun _ => no_reason
theorem resumeSubstitute (c : Chan) : Statement (.resumeSubstitute c) := fun _ => no_reason
theorem resumeAbandon (c : Chan) : Statement (.resumeAbandon c) := fun _ => no_reason
theorem ringProducer (c : Chan) (value : Word32) : Statement (.ringProducer c value) := fun _ => no_reason
theorem expediteProducer (c : Chan) (value : Word32) : Statement (.expediteProducer c value) := fun _ => no_reason
theorem ringSize (c : Chan) (value : Word32) : Statement (.ringSize c value) := fun _ => no_reason
theorem expediteSize (c : Chan) (value : Word32) : Statement (.expediteSize c value) := fun _ => no_reason
theorem ringBase (c : Chan) (half : Half) (value : Word32) : Statement (.ringBase c half value) := fun _ => no_reason
theorem expediteBase (c : Chan) (half : Half) (value : Word32) : Statement (.expediteBase c half value) := fun _ => no_reason
theorem compact (c : Chan) (on : Bool) : Statement (.compact c on) := fun _ => no_reason
theorem csbAddress (c : Chan) (half : Half) (value : Word32) : Statement (.csbAddress c half value) := fun _ => no_reason
theorem apertureBase (c : Chan) (a : WayId) (half : Half) (value : Word32) : Statement (.apertureBase c a half value) := fun _ => no_reason
theorem apertureLimit (c : Chan) (a : WayId) (half : Half) (value : Word32) : Statement (.apertureLimit c a half value) := fun _ => no_reason
theorem apertureControl (c : Chan) (a : WayId) (value : Word32) : Statement (.apertureControl c a value) := fun _ => no_reason
theorem acw (c : Chan) (value : Word32) : Statement (.acw c value) := fun _ => no_reason
theorem eventQueueSize (value : Word32) : Statement (.eventQueueSize value) := fun _ => no_reason
theorem eventQueueBase (half : Half) (value : Word32) : Statement (.eventQueueBase half value) := fun _ => no_reason
theorem eventHead (value : Word32) : Statement (.eventHead value) := fun _ => no_reason
theorem lostEvents (value : Word32) : Statement (.lostEvents value) := fun _ => no_reason
theorem lateResponseCount (value : Word32) : Statement (.lateResponseCount value) := fun _ => no_reason
theorem lostWriteBackCount (value : Word32) : Statement (.lostWriteBackCount value) := fun _ => no_reason
theorem siblingPrefetchFailCount (value : Word32) : Statement (.siblingPrefetchFailCount value) := fun _ => no_reason
theorem deviceStatus (value : Word32) : Statement (.deviceStatus value) := fun _ => no_reason
theorem channelStatus (c : Chan) (value : Word32) : Statement (.channelStatus c value) := fun _ => no_reason
theorem partialRegisterWrite (offset : BitVec 12) (enables : BitVec 4) (value : Word32) : Statement (.partialRegisterWrite offset enables value) := fun _ => no_reason
theorem registerWrite (offset : BitVec 12) (value : Word32) : Statement (.registerWrite offset value) := fun _ => no_reason
theorem probeShare (address : Word64) : Statement (.probeShare address) := fun _ => no_reason
theorem probeInvalidate (address : Word64) : Statement (.probeInvalidate address) := fun _ => no_reason
theorem beatGrant : Statement .beatGrant := fun _ => no_reason
theorem fetchSharedData (tag : TagId) (gen : Bool) (grant : Grant) (bytes : Line) : Statement (.fetchSharedData tag gen grant bytes) := fun _ => no_reason
theorem siblingPrefetchData (tag : TagId) (gen : Bool) (grant : Grant) (bytes : Line) : Statement (.siblingPrefetchData tag gen grant bytes) := fun _ => no_reason
theorem fetchOwnedData (tag : TagId) (gen : Bool) (grant : Grant) (bytes : Line) : Statement (.fetchOwnedData tag gen grant bytes) := fun _ => no_reason
theorem upgradeDone (tag : TagId) (gen : Bool) : Statement (.upgradeDone tag gen) := fun _ => no_reason
theorem upgradeData (tag : TagId) (gen : Bool) (grant : Grant) (bytes : Line) : Statement (.upgradeData tag gen grant bytes) := fun _ => no_reason
theorem readDirectData (tag : TagId) (gen : Bool) (grant : Grant) (bytes : Line) : Statement (.readDirectData tag gen grant bytes) := fun _ => no_reason
theorem descriptorHalfData (tag : TagId) (gen : Bool) (grant : Grant) (bytes : Line) : Statement (.descriptorHalfData tag gen grant bytes) := fun _ => no_reason
theorem csbReadData (tag : TagId) (gen : Bool) (grant : Grant) (bytes : Line) : Statement (.csbReadData tag gen grant bytes) := fun _ => no_reason
theorem bypassWriteDone (tag : TagId) (gen : Bool) : Statement (.bypassWriteDone tag gen) := fun _ => no_reason
theorem completionRecordDone (tag : TagId) (gen : Bool) : Statement (.completionRecordDone tag gen) := fun _ => no_reason
theorem csbWriteDone (tag : TagId) (gen : Bool) : Statement (.csbWriteDone tag gen) := fun _ => no_reason
theorem eventRecordDone (tag : TagId) (gen : Bool) : Statement (.eventRecordDone tag gen) := fun _ => no_reason
theorem writelineDone (tag : TagId) (gen : Bool) : Statement (.writelineDone tag gen) := fun _ => no_reason
theorem fetchFail (tag : TagId) (gen : Bool) (reason : FailReason) : Statement (.fetchFail tag gen reason) := fun h => reason_of_link h
theorem siblingPrefetchFail (tag : TagId) (gen : Bool) (reason : FailReason) : Statement (.siblingPrefetchFail tag gen reason) := fun h => reason_of_link h
theorem descriptorFetchFail (tag : TagId) (gen : Bool) (reason : FailReason) : Statement (.descriptorFetchFail tag gen reason) := fun h => reason_of_link h
theorem csbReadFail (tag : TagId) (gen : Bool) (reason : FailReason) : Statement (.csbReadFail tag gen reason) := fun h => reason_of_link h
theorem bypassWriteFail (tag : TagId) (gen : Bool) (reason : FailReason) : Statement (.bypassWriteFail tag gen reason) := fun h => reason_of_link h
theorem completionRecordFail (tag : TagId) (gen : Bool) (reason : FailReason) : Statement (.completionRecordFail tag gen reason) := fun h => reason_of_link h
theorem csbWriteFail (tag : TagId) (gen : Bool) (reason : FailReason) : Statement (.csbWriteFail tag gen reason) := fun h => reason_of_link h
theorem eventRecordFail (tag : TagId) (gen : Bool) (reason : FailReason) : Statement (.eventRecordFail tag gen reason) := fun h => reason_of_link h
theorem writelineFail (tag : TagId) (gen : Bool) (reason : FailReason) : Statement (.writelineFail tag gen reason) := fun h => reason_of_link h
theorem lateResponse (tag : TagId) (gen : Bool) (resp : Response) : Statement (.lateResponse tag gen resp) :=
  match resp with
  | .fail _ => fun h => reason_of_link h
  | .data _ _ => fun _ => no_reason
  | .done => fun _ => no_reason
theorem responseTimeout (tag : TagId) : Statement (.responseTimeout tag) := fun _ => no_reason
theorem doze : Statement .doze := fun _ => no_reason
theorem sweepSet : Statement .sweepSet := fun _ => no_reason
theorem eventRecordWrite : Statement .eventRecordWrite := fun _ => no_reason

end Sys2Proof.Laws.Family
end

