-- ==== Sys2Proof/Laws/Responses.lean ====
section
/-! SUPPORT. What the end of a request does: a matched response, a late one, the expiry of a timeout, and a posted event;
to be cited in place of unfolding `State.receive`, `State.failed` and `State.post`. -/
namespace Sys2Proof.Machine

variable {s : State} {t : TagId} {g : Bool} {r : Req}

/-- A matched response ends its request, and the owner hears of it (R156). -/
theorem State.receive_awaits (h : s.Awaits t g r) (resp : Response) :
    s.begin.receive t g resp = (s.ended t).outcome r resp := by
  obtain ⟨h1, h2, h3⟩ := h
  have : s.begin.link.matched t g = some r := by
    show s.link.matched t g = some r
    simp [Link.matched, h1, h2, h3]
  unfold State.receive
  rw [this]
  rfl

/-- A response of a kind that Table 9-1 lists for its request (R151). -/
theorem heard_of_accepts {resp : Response} {k : ReqKind} (h : k.accepts resp = true) :
    Response.heard resp k = resp := by
  simp [Response.heard, h]

/-- A Fail is listed for every request (R151). -/
@[simp] theorem ReqKind.accepts_fail (k : ReqKind) (reason : FailReason) : k.accepts (.fail reason) = true := by
  cases k <;> rfl

/-- A Fail reaches the owner with its reason (R101). -/
theorem State.outcome_fail (s : State) (r : Req) (reason : FailReason) :
    s.outcome r (.fail reason) = s.failed r reason := by
  simp [State.outcome, heard_of_accepts]

/-- A listed Data or Done reaches the owner (R151). -/
theorem State.outcome_answered (s : State) {r : Req} {resp : Response} (h : r.kind.accepts resp = true)
    (hf : ∀ reason, resp ≠ .fail reason) : s.outcome r resp = s.answered r resp := by
  unfold State.outcome
  rw [heard_of_accepts h]
  cases resp with
  | fail reason => exact absurd rfl (hf reason)
  | data grant bytes => rfl
  | done => rfl

/-- A response that Table 9-1 does not list for its request counts as a Fail with reason DecodeError (R151). -/
theorem State.outcome_unlisted (s : State) {r : Req} {resp : Response} (h : r.kind.accepts resp = false) :
    s.outcome r resp = s.failed r .decodeError := by
  simp [State.outcome, Response.heard, h]

/-- What expiry does to a tag (R156). -/
theorem Tag.expire_eq (x : Tag) : x.expire = x.expired := rfl

/-- The expiry of a timeout (R157). -/
theorem State.expire_eq {o : TagRec} (h : (s.link.tag t).state = .outstanding)
    (hr : (s.link.tag t).record = some o) (ht : o.timeout ≠ 0) :
    s.begin.expire t =
      State.failed { s.fresh with link := s.link.putTag t (s.link.tag t).expired } o.req .timeout := by
  have h' : (s.begin.link.tag t).state = .outstanding := h
  have hr' : (s.begin.link.tag t).record = some o := hr
  unfold State.expire
  simp only [h', hr', beq_iff_eq, ht, if_false]
  rfl

/-- An event posted alone at its place takes the next sequence number and enters the event engine (R128). -/
theorem State.post_numbered {s : State} (h : s.place = []) (v : Event) :
    (s.post v).numberPlace = { s with
      engine := ({ s.engine with sequence := nextSequence s.engine.sequence } : Engine).accept
        { v with sequence := s.engine.sequence } } := by
  rw [State.numberPlace_of_post (v := v) (by simp [h])]
  show ({ s with place := [], engine := _ } : State) = _
  rw [← h]
  rfl

/-- The sequence number that follows is never 0 (R128). -/
theorem nextSequence_ne_zero (n : BitVec 16) : nextSequence n ≠ 0 := by
  unfold nextSequence
  split
  · decide
  · rename_i h
    intro e
    apply h
    bv_omega

/-- The FIFO grows by at most the event, and never beyond its eight places (R131). -/
theorem Engine.accept_fifo (e : Engine) (v : Event) :
    (e.accept v).fifo = e.fifo ∨ ((e.accept v).fifo = e.fifo ++ [v] ∧ e.fifo.length < Config.fifoEvents) := by
  unfold Engine.accept Engine.lose
  split
  · exact .inl rfl
  · split
    · exact .inl rfl
    · split
      · next h => exact .inr ⟨rfl, h⟩
      · exact .inl rfl

end Sys2Proof.Machine
end

