-- ==== Sys2Proof/Tests/Slice0.lean ====
section
/-! SUPPORT. Tests on small states: the checks of WellFormed, a witness of the hypotheses of each statement, and single
steps whose results are taken from the spec's own tables and worked examples. -/
namespace Sys2Proof.Tests
open Sys2Proof Sys2Proof.Machine
set_option Elab.async false

/-! ### Small states -/

/-- Channel 0 of the part after reset, changed. -/
def chan0 (f : Channel → Channel) : State := State.reset.modCh 0 f

/-- The part after reset, in a power state. -/
def powered (p : PowerState) (q : Bool := false) : State :=
  { State.reset with device := { State.reset.device with power := p, quiesce := q } }

/-- The part after reset, its event engine changed. -/
def engined (f : Engine → Engine) : State := { State.reset with engine := f State.reset.engine }

/-- Tag 0 outstanding with generation 0 for a request, with the reset timeout. -/
def withTag (s : State) (r : Req) : State :=
  let x : Tag := { state := .outstanding, gen := false, stale := false, record := some { req := r, timeout := 10000, count := 0 } }
  { s with link := s.link.putTag 0 x }

/-- A line of the cache, its sector in way 0 of its set. -/
def withLine (s : State) (n : Nat) (l : CacheLine) : State :=
  { s with cache := s.cache.putSet (lineSet n) ((s.cache.set (lineSet n)).putWay 0
      (CacheWay.setLine { CacheWay.reset with tagValid := true, tag := lineTag n } (lineUpper n) l)) }

/-- A line in a state. -/
def lineIn (x : LineState) (bytes : Line) : CacheLine := { CacheLine.reset with state := x, bytes := bytes }

/-- A Copy of `n` I32 elements from 1000H to 2000H, both Linear, Notify set (Tables 2-1, 2-3; R13, R80). -/
def copyImage (n : Nat) : DescImage :=
  let control : Nat := 1 + 16 + 3 * 2 ^ 20 + 3 * 2 ^ 26
  let a : DescImage := putBytes (putBytes 0 32 8 0x1000) 52 4 1
  let d : DescImage := putBytes (putBytes a 104 8 0x2000) 124 4 1
  putBytes (putBytes d 0 4 control) 4 4 n

/-- Its job, with no beat committed. -/
def copyJob (n : Nat) : Current :=
  { image := copyImage n, ring := .normal, location := 5, beat := 0, committed := 0, skipped := 0, faults := 0, flags := 0,
    fails := [] }

/-- A channel in the middle of that job, one aperture open over everything. -/
def busy (h : Channel) : Channel :=
  { h with
    state := .running, phase := .job, current := some (copyJob 16)
    normal := { base := 0x10000, size := 16, producer := 6, consumer := 5, fetch := 6 }
    apertures := h.apertures.set 0 { base := 0, limit := BitVec.allOnes 64, control := 7 } }

/-- A channel that has faulted in that job. -/
def faulted (kind : FaultKind) (h : Channel) : Channel :=
  { busy h with
    state := .faulted
    fault := { FaultRec.reset with valid := true, ring := .normal, location := 5, kind := kind } }

/-- What a command leaves, seen through `f`. -/
def after {α : Type} (i : Instr) (s : State) (f : State → α) : Option α :=
  match exec i s with
  | .next t => some (f t)
  | _ => none

/-! ### WellFormed: one ill-formed term for each check -/

theorem test_wf_softInit : (Instr.softInit 0x80).wellFormed = false ∧ (Instr.softInit 0x01).wellFormed = true := by decide
theorem test_wf_quiesce : (Instr.quiesce 0x80).wellFormed = false := by decide
theorem test_wf_quiesceRelease : (Instr.quiesceRelease 0x80).wellFormed = false := by decide
theorem test_wf_dormant : (Instr.dormant 0x80).wellFormed = false := by decide
theorem test_wf_wake : (Instr.wake 0x80).wellFormed = false := by decide
theorem test_wf_partial_offset : (Instr.partialRegisterWrite 0x002 0x3 0).wellFormed = false := by decide
theorem test_wf_partial_enables : (Instr.partialRegisterWrite 0x000 0xF 0).wellFormed = false := by decide
theorem test_wf_registerWrite : (Instr.registerWrite 0x001 0).wellFormed = false := by decide
theorem test_wf_fetchFail : (Instr.fetchFail 0 false .timeout).wellFormed = false := by decide
theorem test_wf_siblingPrefetchFail : (Instr.siblingPrefetchFail 0 false .timeout).wellFormed = false := by decide
theorem test_wf_descriptorFetchFail : (Instr.descriptorFetchFail 0 false .timeout).wellFormed = false := by decide
theorem test_wf_csbReadFail : (Instr.csbReadFail 0 false .timeout).wellFormed = false := by decide
theorem test_wf_bypassWriteFail : (Instr.bypassWriteFail 0 false .timeout).wellFormed = false := by decide
theorem test_wf_completionRecordFail : (Instr.completionRecordFail 0 false .timeout).wellFormed = false := by decide
theorem test_wf_csbWriteFail : (Instr.csbWriteFail 0 false .timeout).wellFormed = false := by decide
theorem test_wf_eventRecordFail : (Instr.eventRecordFail 0 false .timeout).wellFormed = false := by decide
theorem test_wf_writelineFail : (Instr.writelineFail 0 false .timeout).wellFormed = false := by decide
theorem test_wf_lateResponse : (Instr.lateResponse 0 false (.fail .timeout)).wellFormed = false := by decide

/-! ### Witnesses: states and operands that meet the hypotheses of the statements -/

/-- Eight events wait, and the next sequence number is the last before it wraps. -/
def fullFifo : State :=
  { engined fun e => { e with size := 64, sequence := 0xFFFF, fifo := List.replicate 8 { Event.simple .wakeAck none 0 0 with sequence := 0xFFFE } } with
    device := { Device.reset with power := .waking }, pending := [.wakeComplete] }

/-- A write-back of line 64. -/
def writeBack : Req := { Req.plain .writeLine 0x1000 64 .cache .writeBack with mask := BitVec.allOnes 64 }
/-- A read of the element at 1000H for channel 0. -/
def elementRead (k : ReqKind) : Req := Req.plain k 0x1000 64 (.channel 0) (.read .a true)
/-- A request of channel 0 at 1000H. -/
def ofChannel (k : ReqKind) (p : Purpose) : Req := Req.plain k 0x1000 64 (.channel 0) p

theorem witness_StepRunsFrontCommand :
    ({ State.reset with pending := [.doze, .sweepSet] } : State).pending = .doze :: [.sweepSet] := rfl

theorem witness_CommandEnds : State.reset.Rests := Option.isNone_iff_eq_none.1 (by decide +kernel)

/-- A part with work to do, and one whose oldest waiting request is a fill of a line that nothing holds back. -/
theorem witness_CommandEnds_actions :
    (chan0 fun h => { h with state := .idle, listPos := some 0 }).progress.isSome = true ∧
      (let r := elementRead .fetchShared
       let s : State := { State.reset with link := { Link.reset with waiting := [r] } }
       s.link.waiting = r :: [] ∧ r.kind = .fetchShared ∧ (∀ e ∈ s.cache.evict, e.line ≠ r.address / 64) ∧
         s.link.dataHeld 0 < 12 ∧ (s.link.tag 0).state = .free ∧
         (∀ k : TagId, (s.link.tag k).stale = (s.link.tag 0).stale → 0 ≤ k)) ∧
      (writeBack.kind = .writeLine ∧ writeBack.purpose = .writeBack) := by decide +kernel

theorem witness_EmptyQueueTicks : (withTag State.reset (elementRead .fetchShared)).pending = [] := rfl

theorem witness_StepKeepsEventEngine :
    (fullFifo.SequenceNonzero ∧ fullFifo.FifoBounded) ∧ ∃ t, step fullFifo = .next t :=
  ⟨⟨by unfold State.SequenceNonzero; decide +kernel, by unfold State.FifoBounded; decide +kernel⟩, _, rfl⟩

/-- Every bit of the capability mask set in the ACW and in its shadow, and a write of one bit more. -/
def legalAcw : State :=
  { chan0 fun h => { h with acw := 0x000F7F7F, shadow := some 0x000F7F7F } with pending := [.acw 0 0x001F7F7F] }

theorem witness_StepKeepsAcwsLegal : legalAcw.AcwsLegal ∧ ∃ t, step legalAcw = .next t := by
  have h : ∀ c, acwLegal (legalAcw.ch c).acw = true ∧ (legalAcw.ch c).shadow.all acwLegal = true := by decide +kernel
  refine ⟨fun c => ⟨(h c).1, fun v hv => ?_⟩, _, rfl⟩
  have := (h c).2
  rw [hv] at this
  exact this

/-- Four link entries and four deferred commands while the device is Quiesced, and a fifth command. -/
def fullLists : State :=
  { powered .quiesced true with
    chans := Vector.replicate 4 { Channel.reset with
      links := List.replicate 4 { kind := .ringPosition, next := 1, held := 0 }, deferred := List.replicate 4 .disable }
    pending := [.disable 0] }

/-- Three entries in the eviction buffer, a sweep running, and a Dirty line in its next set. -/
def sweeping (n : Nat) (kind : SweepKind) : State :=
  let s := withLine State.reset 256 (lineIn .dirty 7)
  { s with
    cache := { s.cache with
      evict := List.replicate n { line := 9, bytes := 0, sweep := none }
      sweep := some { number := 0, kind := kind, next := 0 } }
    pending := [.sweepSet] }

theorem witness_StepKeepsBounds :
    (let s := { fullLists with cache := (sweeping 3 .command).cache }
     (s.LinksBounded ∧ s.DeferredBounded ∧ s.EvictBounded) ∧ ∃ t, step s = .next t) ∧
      ∃ t, step (sweeping 3 .command) = .next t :=
  ⟨⟨⟨by unfold State.LinksBounded; decide +kernel, by unfold State.DeferredBounded; decide +kernel,
    by unfold State.EvictBounded; decide +kernel⟩, _, rfl⟩, _, rfl⟩

theorem witness_StepKeepsAperturesGranular :
    ({ State.reset with pending := [.apertureLimit 0 0 .low 0x1234] } : State).AperturesGranular ∧
      ∃ t, step { State.reset with pending := [.apertureLimit 0 0 .low 0x1234] } = .next t :=
  ⟨by unfold State.AperturesGranular; decide +kernel, _, rfl⟩

theorem witness_InterruptLevelFollowsState : (∃ t, step fullFifo = .next t) ∧ fullFifo.pending.head? ≠ some .powerOnReset :=
  ⟨⟨_, rfl⟩, by decide +kernel⟩

theorem witness_FatalEndsOnlyByReset :
    (Instr.quiesce 1).mayResetDevice = false ∧ (engined fun e => { e with fatal := true }).engine.fatal = true ∧
      (∃ t, exec (.quiesce 1) (engined fun e => { e with fatal := true }) = .next t) ∧
      (engined fun e => { e with fatal := true }).pending.head? = none ∧
      ∃ t, step (engined fun e => { e with fatal := true }) = .next t :=
  ⟨by decide, rfl, ⟨_, rfl⟩, rfl, _, rfl⟩

theorem witness_ErrorEndsOnlyByReset :
    let s := chan0 fun h => { h with state := .error, cause := .csbReadFailed, deferred := [.disable] }
    (Instr.reset 1).mayResetDevice = false ∧ (Instr.reset 1).mayResetChannel 0 = false ∧ (s.ch 0).state = .error ∧
      ChanCmd.reset ∉ (s.ch 0).deferred ∧ (∃ t, exec (.reset 1) s = .next t) ∧ s.pending.head? = none ∧
      ∃ t, step s = .next t :=
  ⟨by decide, by decide, by decide +kernel, by decide +kernel, ⟨_, rfl⟩, rfl, _, rfl⟩

theorem witness_RegisterMapAndReads :
    Reg.ofOffset 0x001#12 = none ∧ Reg.ofOffset 0xFFC#12 = none ∧
      ((powered .dormant true).asleep = true ∧ 0x010#12 ∉ [0x000#12, 0x008#12, 0x00C#12]) ∧
      Reg.ofOffset 0x00C#12 = some .deviceStatus ∧ 0x00C#12 ∈ [0x000#12, 0x008#12, 0x00C#12] ∧
      Reg.ofOffset 0x010#12 = some .resetCause ∧ (powered .quiesced true).asleep = false := by decide +kernel

/-- For RingSizeWrites, RingBaseWrites, CsbAddressWrites, ApertureWrites, AcwWrites, StatusAndCounterWrites, Doorbells,
EventQueueDisable, EventHeadWrites, EnablesAndFlush and ChannelReset. -/
theorem witness_register_writes : State.reset.asleep = false ∧ (powered .dormantEntry true).asleep = false := by
  decide +kernel

theorem witness_CompactWrites :
    (State.reset.asleep = false ∧ true ≠ (State.reset.ch 0).compact ∧ (State.reset.ch 0).state = .disabled) ∧
      (let s := chan0 fun h => { h with compact := true }
       s.asleep = false ∧ true = (s.ch 0).compact ∧ false ≠ (s.ch 0).compact ∧ (s.ch 0).state = .disabled) ∧
      (let s := chan0 fun h => { h with state := .idle }
       s.asleep = false ∧ true ≠ (s.ch 0).compact ∧ (s.ch 0).state ≠ .disabled) := by decide +kernel

theorem witness_EventQueueWrites : State.reset.asleep = false ∧ (64#32) ≠ 0 ∧ (4097#32) ≠ 0 := by decide +kernel

theorem witness_GeneralRegisterWrites :
    (State.reset.asleep = false ∧ Reg.ofOffset 0x844#12 = none ∧ Reg.ofOffset 0x014#12 = some .responseTimeout ∧
        Reg.ofOffset 0x018#12 = some .dozeDelay) ∧
      (let all : Word32 := 0xF3
       let none_ : Word32 := 0
       all[7] = true ∧ all[6] = true ∧ all[5] = true ∧ all[4] = true ∧ all[0] = true ∧ all[1] = true ∧
         none_[0] = State.reset.device.quiesce ∧ none_[4] = false ∧ none_[5] = false ∧ none_[6] = false ∧
         none_[7] = false ∧ none_[0] = false ∧ none_[1] = false) := by decide +kernel

theorem witness_DormantDropsWrites :
    (powered .dormant true).asleep = true ∧ (powered .waking true).asleep = true ∧ 0x00C#12 ≠ 0x008#12 := by
  decide +kernel

theorem witness_QuiesceRequest :
    let w : Word32 := 0x00000003
    (w[4] = false ∧ w[5] = false ∧ w[6] = false ∧ w[7] = false) ∧
      ((powered .active).device.quiesce = false ∧ (powered .active).device.power = .active) ∧
      ((powered .doze).device.quiesce = false ∧ (powered .doze).device.power = .doze) ∧
      (powered .dormant true).device.quiesce = true := by decide +kernel

theorem witness_QuiesceRelease :
    let w : Word32 := 0
    let s : State := { chan0 fun h => { h with heldQuiesce := true, deferred := [.enable, .disable] } with
      device := { Device.reset with power := .quiescing, quiesce := true } }
    (w[4] = false ∧ w[5] = false ∧ w[6] = false ∧ w[7] = false) ∧ s.device.quiesce = true ∧
      s.device.power = .quiescing ∧ (powered .quiesced true).device.power = .quiesced := by decide +kernel

theorem witness_DormantAndWake :
    let w : Word32 := 1
    (w[6] = false ∧ w[7] = false) ∧
      (w[5] = false ∧ w[0] = (powered .quiesced true).device.quiesce ∧ (powered .quiesced true).device.power = .quiesced ∧
        (powered .quiesced true).engine.fatal = false) ∧
      (w[4] = false ∧ w[0] = (powered .dormant true).device.quiesce ∧ (powered .dormant true).device.power = .dormant) ∧
      (powered .waking true).device.power = .waking ∧ State.reset.device.power ≠ .waking := by decide +kernel

/-- One word for each line of the hypothesis, none of which meets another line. -/
theorem witness_PowerRequestRejected :
    let both : Word32 := 0x30
    let dormantInit : Word32 := 0x50
    let wakeInit : Word32 := 0x60
    let quiesceDormant : Word32 := 0x11
    let init : Word32 := 0x40
    let dormant : Word32 := 0x10
    let wake : Word32 := 0x20
    let quiesce : Word32 := 0x01
    let release : Word32 := 0x00
    both[4] = true ∧ both[5] = true ∧ dormantInit[4] = true ∧ dormantInit[6] = true ∧ wakeInit[5] = true ∧
      wakeInit[6] = true ∧ quiesceDormant[0] ≠ State.reset.device.quiesce ∧ quiesceDormant[4] = true ∧
      init[6] = true ∧ (powered .waking true).device.power = .waking ∧ dormant[4] = true ∧
      State.reset.device.power ≠ .quiesced ∧ wake[5] = true ∧ State.reset.device.power ≠ .dormant ∧
      (quiesce[6] = false ∧ quiesce[0] ≠ (powered .quiescing).device.quiesce ∧ quiesce[0] = true) ∧
      (release[6] = false ∧ release[0] ≠ (powered .dormant true).device.quiesce ∧ release[0] = false) ∧
      both[7] = false ∧ wakeInit[7] = false := by decide +kernel

theorem witness_SoftInit :
    let w : Word32 := 0x41
    let draining : State := { State.reset with device := { Device.reset with softInit := true } }
    (w[4] = false ∧ w[5] = false ∧ w[7] = false) ∧ (State.reset.asleep = false ∧ State.reset.device.softInit = false) ∧
      draining.asleep = false ∧ draining.device.softInit = true := by decide +kernel

/-- The part at rest in Quiescing, and one that is not. -/
theorem witness_QuiesceRequest_still :
    let s := powered .quiescing true
    (s.device.power = .quiescing ∧ s.beat = none ∧ s.link.outstanding = [] ∧ s.link.waiting = [] ∧ s.cache.evict = [] ∧
        s.cache.sweep = none ∧ s.cache.queue = [] ∧
        ∀ c : Chan, (s.ch c).progressOwed = false ∧ (s.ch c).state ∈ [ChState.disabled, .idle, .parked, .faulted, .error]) ∧
      State.reset.device.power ≠ .quiescing := by decide +kernel

/-- A save in each of its stages, with no write of it outstanding, and one with a write outstanding. -/
theorem witness_ParkAndUnpark_stages :
    (∀ n ∈ [1, 2, 3], ∀ o ∈ [Origin.explicit, .automatic],
      let v : Save := { origin := o, stage := n, address := 0x4000, image := 0 }
      let s := chan0 fun h => { h with state := .saving, save := some v }
      (s.ch 0).save = some v ∧ s.link.outstanding ++ s.link.waiting = []) ∧
      (let q := ofChannel .writePartial .csbSave
       q ∈ (withTag State.reset q).link.outstanding ∧ q.owner = .channel 0 ∧ q.orphan = false) := by decide +kernel

/-- For EnableAndDisable and ParkAndUnpark. -/
theorem witness_judged_commands :
    (State.reset.device.power = .active ∧ State.reset.engine.fatal = false) ∧ (powered .doze).device.power = .doze ∧
      (powered .doze).engine.fatal = false := by decide +kernel

theorem witness_ResumeBeatFaults :
    (∀ k ∈ [FaultKind.arithmetic, .address, .memory], let s := chan0 (faulted k)
      s.device.power = .active ∧ s.engine.fatal = false ∧ (s.ch 0).state = .faulted ∧
        (s.ch 0).fault.kind = k ∧ (s.ch 0).current = some (copyJob 16)) ∧
      (let s := chan0 (faulted .link)
       (s.ch 0).state = .faulted ∧ (s.ch 0).fault.kind ≠ .arithmetic ∧ (s.ch 0).fault.kind ≠ .address ∧
         (s.ch 0).fault.kind ≠ .memory) ∧
      (State.reset.ch 0).state ≠ .faulted ∧ (State.reset.ch 0).state ≠ .error := by decide +kernel

theorem witness_ResumeDescriptors :
    (let s := chan0 (faulted .descriptor)
     s.device.power = .active ∧ s.engine.fatal = false ∧ (s.ch 0).state = .faulted ∧
       (s.ch 0).current = some (copyJob 16) ∧ s.cache.lineState ((0x10000 + 128 * 5) / 64) = .invalid ∧
       (withLine s ((0x10000 + 128 * 5) / 64) (lineIn .shared 7)).cache.lineState ((0x10000 + 128 * 5) / 64) = .shared) ∧
      (let s := chan0 (faulted .memory)
       (s.ch 0).state = .faulted ∧ descCompletionField (copyImage 16) = 0) ∧
      (let x := { copyJob 16 with image := putBytes (copyImage 16) 8 8 0x3000 }
       let s := chan0 fun h => { faulted .memory h with current := some x }
       (s.ch 0).state = .faulted ∧ (s.ch 0).current = some x ∧ descCompletionField x.image ≠ 0) := by decide +kernel

theorem witness_CommandsRefusedOrDeferred :
    (State.reset.asleep = false ∧ (0#32).toNat = 0 ∧ 9 < (10#32).toNat) ∧
      (engined fun e => { e with fatal := true }).engine.fatal = true ∧
      (∀ p ∈ [PowerState.quiescing, .quiesced, .dormantEntry],
        (powered p true).asleep = false ∧ (powered p true).engine.fatal = false ∧ (powered p true).device.power = p) ∧
      (let s := chan0 fun h => { h with state := .error }
       s.asleep = false ∧ s.engine.fatal = false ∧ s.device.power = .active ∧ (s.ch 0).state = .error) := by
  decide +kernel

/-- The condition under which `BeatGrant` calls a channel ready. -/
def ready (s : State) (d : Chan) : Bool :=
  let h := s.ch d
  h.state ∈ [.running, .draining, .expediting] && h.phase == .job &&
    (match h.current with
      | some x => descKind x.image == some .operation && x.beat < descBeats x.image && x.fails.isEmpty
      | none => false) &&
    h.pendingFault.isNone && !h.heldQuiesce && !h.heldFatal && (h.claim.isNone || h.owedAttempt != .none) &&
    s.link.dataHeld d < 12 && (s.link.freeTag true).isSome

/-- Channel 0 alone has a beat to run, with its apertures open, then closed. -/
theorem witness_BeatGrant :
    let s := chan0 busy
    let closed := chan0 fun h => { busy h with apertures := Channel.reset.apertures }
    let none_ := State.reset
    (s.beat = none ∧ ready s 0 = true ∧ (∀ d : Chan, d ≠ 0 → ready s d = false) ∧ (s.ch 0).state ≠ .expediting ∧
        (s.ch 0).current = some (copyJob 16) ∧
        roundFailure (firstRound false (s.ch 0).apertures (copyImage 16) 0) = none) ∧
      (closed.beat = none ∧ ready closed 0 = true ∧ (∀ d : Chan, d ≠ 0 → ready closed d = false) ∧
        (roundFailure (firstRound false (closed.ch 0).apertures (copyImage 16) 0)).isSome = true) ∧
      (none_.beat = none ∧ ∀ d : Chan, ready none_ d = false) := by decide +kernel

/-- A beat of a cached stream that may commit, none of its lines a fallback. -/
theorem witness_BeatGrant_commit :
    ((chan0 busy).ch 0).current = some (copyJob 16) ∧ streamBypass (copyImage 16) .d = false ∧
      (∀ q ∈ [({ line := 0x80, state := .open_ } : Acq)], q.state ≠ .fallback) := by decide +kernel

theorem witness_BeatGrant_busy :
    (after .beatGrant (chan0 busy) fun t => t.beat.isSome) = some true := by decide +kernel

theorem witness_TimeoutAndLateResponse :
    let s := withTag State.reset (elementRead .fetchShared)
    ((s.link.tag 0).state = .outstanding ∧
        (s.link.tag 0).record = some { req := elementRead .fetchShared, timeout := 10000, count := 0 } ∧ 10000 ≠ 0) ∧
      (s.link.tag 1).state ≠ .outstanding ∧ (s.link.tag 0).gen ≠ true := by decide +kernel

theorem witness_unlisted_responses :
    ∀ k ∈ [ReqKind.fetchShared, .fetchOwned, .upgrade, .writeLine, .readDirect, .writePartial],
      (withTag State.reset (elementRead k)).Awaits 0 false (elementRead k) ∧ (elementRead k).kind = k := by
  have a (r : Req) : (withTag State.reset r).Awaits 0 false r := by
    refine ⟨?_, ?_, ?_⟩ <;> simp [withTag, Link.putTag, Link.tag]
  exact fun k _ => ⟨a _, rfl⟩

theorem witness_Doze :
    let s := State.reset
    (s.device.power = .active ∧ s.device.quiesce = false ∧ s.device.dozeDelay ≠ 0 ∧
        (∀ c : Chan, (s.ch c).state ∈ [ChState.disabled, .idle, .parked, .faulted, .error] ∧
          (s.ch c).resetDraining = false) ∧
        s.link.outstanding = [] ∧ s.link.waiting = [] ∧ s.cache.evict = [] ∧ s.cache.sweep = none ∧ s.cache.queue = [] ∧
        s.engine.fifo = [] ∧ s.engine.lossMark = none) ∧
      (powered .quiesced true).device.power ≠ .active := by decide +kernel

theorem witness_SweepSet :
    State.reset.cache.sweep = none ∧
      (sweeping 3 .command).cache.sweep = some { number := 0, kind := .command, next := 0 } ∧
      (let dirty (s : State) := (allWays.map fun v =>
         (if (((s.cache.set 0).way v).line false).state = .dirty then 1 else 0) +
           (if (((s.cache.set 0).way v).line true).state = .dirty then 1 else 0)).sum
       (sweeping 3 .command).cache.evict.length + dirty (sweeping 3 .command) ≤ 4 ∧
         4 < (sweeping 4 .command).cache.evict.length + dirty (sweeping 4 .command)) := by decide +kernel

/-- The matched responses: a state with the tag outstanding for each kind and purpose the statements name. -/
theorem awaits_withTag (s : State) (r : Req) : (withTag s r).Awaits 0 false r := by
  refine ⟨?_, ?_, ?_⟩ <;> simp [withTag, Link.putTag, Link.tag]

theorem witness_FillData :
    (withTag State.reset (elementRead .fetchShared)).Awaits 0 false (elementRead .fetchShared) ∧
      (elementRead .fetchShared).owner = .channel 0 ∧ (elementRead .fetchShared).kind = .fetchShared ∧
      (elementRead .fetchShared).purpose = .read .a true ∧
      (withTag State.reset (ofChannel .fetchShared .prefetch)).Awaits 0 false (ofChannel .fetchShared .prefetch) ∧
      (ofChannel .fetchShared .prefetch).purpose ≠ .read .a true ∧
      (withTag State.reset (ofChannel .fetchOwned .acquire)).Awaits 0 false (ofChannel .fetchOwned .acquire) ∧
      (ofChannel .fetchOwned .acquire).kind = .fetchOwned :=
  ⟨awaits_withTag _ _, rfl, rfl, rfl, awaits_withTag _ _, by decide, awaits_withTag _ _, rfl⟩

theorem witness_UpgradeResponses :
    (withTag State.reset (ofChannel .upgrade .acquire)).Awaits 0 false (ofChannel .upgrade .acquire) ∧
      (ofChannel .upgrade .acquire).kind = .upgrade := ⟨awaits_withTag _ _, rfl⟩

/-- A channel that waits for both halves of a descriptor, and one that waits for the lines of its block. -/
def fetching : State := chan0 fun h => { h with state := .running, phase := .fetching .waiting .waiting }
/-- See `fetching`. -/
def restoring : State := chan0 fun h =>
  { h with state := .restoring, restore := some { byUnpark := true, address := 0x1000, image := 0, missing := [0, 7] } }

theorem witness_BypassReadData :
    (∀ p ∈ [Purpose.read .a true, .descriptor true, .csbRead 7], (withTag State.reset (ofChannel .readDirect p)).Awaits 0 false
        (ofChannel .readDirect p)) ∧
      (withTag State.reset { elementRead .readDirect with orphan := true }).Awaits 0 false
        { elementRead .readDirect with orphan := true } ∧
      (withTag fetching (ofChannel .readDirect (.descriptor true))).Awaits 0 false (ofChannel .readDirect (.descriptor true)) ∧
      (fetching.ch 0).phase = .fetching .waiting .waiting ∧
      (withTag restoring (ofChannel .readDirect (.csbRead 7))).Awaits 0 false (ofChannel .readDirect (.csbRead 7)) ∧
      (restoring.ch 0).restore = some { byUnpark := true, address := 0x1000, image := 0, missing := [0, 7] } :=
  ⟨fun _ _ => awaits_withTag _ _, awaits_withTag _ _, awaits_withTag _ _, by decide +kernel, awaits_withTag _ _,
    by decide +kernel⟩

theorem witness_WriteDones :
    (∀ p ∈ [Purpose.bypass 0 [], .csbSave, .record none, .record (some (Event.simple .jobComplete (some 0) 1 0)),
        .event true, .event false],
      (withTag State.reset (ofChannel .writePartial p)).Awaits 0 false (ofChannel .writePartial p)) ∧
      (withTag State.reset writeBack).Awaits 0 false writeBack ∧ writeBack.kind = .writeLine :=
  ⟨fun _ _ => awaits_withTag _ _, awaits_withTag _ _, rfl⟩

theorem witness_ReadFails :
    (∀ k ∈ [ReqKind.fetchShared, .fetchOwned, .upgrade], ∀ p ∈ [Purpose.read .a true, .acquire, .prefetch],
      (withTag State.reset (ofChannel k p)).Awaits 0 false (ofChannel k p)) ∧
      (withTag State.reset (elementRead .readDirect)).Awaits 0 false (elementRead .readDirect) ∧
      (elementRead .readDirect).orphan = false ∧
      (withTag State.reset { elementRead .readDirect with orphan := true }).Awaits 0 false
        { elementRead .readDirect with orphan := true } ∧
      (withTag fetching (ofChannel .readDirect (.descriptor false))).Awaits 0 false
        (ofChannel .readDirect (.descriptor false)) ∧
      (withTag restoring (ofChannel .readDirect (.csbRead 0))).Awaits 0 false (ofChannel .readDirect (.csbRead 0)) ∧
      (restoring.ch 0).state = .restoring :=
  ⟨fun _ _ _ _ => awaits_withTag _ _, awaits_withTag _ _, rfl, awaits_withTag _ _, awaits_withTag _ _, awaits_withTag _ _,
    by decide +kernel⟩

theorem witness_WriteFails :
    (∀ p ∈ [Purpose.bypass 2 [(0, 0x1000)], .csbSave, .record none],
      (withTag State.reset (ofChannel .writePartial p)).Awaits 0 false (ofChannel .writePartial p) ∧
        (ofChannel .writePartial p).orphan = false ∧
        (withTag State.reset { ofChannel .writePartial p with orphan := true }).Awaits 0 false
          { ofChannel .writePartial p with orphan := true }) ∧
      (State.reset.ch 0).state ≠ .error ∧
      (withTag State.reset (Req.plain .writePartial 0x1000 64 .engine (.event true))).Awaits 0 false
        (Req.plain .writePartial 0x1000 64 .engine (.event true)) ∧
      (withTag State.reset writeBack).Awaits 0 false writeBack :=
  ⟨fun _ _ => ⟨awaits_withTag _ _, rfl, awaits_withTag _ _⟩, by decide +kernel, awaits_withTag _ _, awaits_withTag _ _⟩

theorem witness_EventAccepted :
    fullFifo.engine.fifo ≠ [] ∧ (engined fun e => { e with lossMark := some 3 }).engine.fifo = [] ∧
      (engined fun e => { e with lossMark := some 3 }).engine.lossMark = some 3 := by decide +kernel

/-- The default context of the ACW, and a job on one format. -/
def ctx : NumCtx := numCtx Config.acwDefault false
/-- See `ctx`. -/
def lanesOf (op : Operation) (f : Format) : LaneJob :=
  { op := op, predicate := .eq, truncate := false, src := f, dst := f, immediate := 0 }

theorem witness_RecordLayouts :
    (copyJob 16).committed < 2 ^ 32 ∧ (copyJob 16).skipped < 2 ^ 32 ∧ (copyJob 16).faults < 2 ^ 32 := by decide

theorem witness_IntegerDivide :
    let j := lanesOf .divide ⟨.signedWrap, 4⟩
    j.op = .divide ∧ j.src.isWrap = true ∧ j.src.size ∈ [1, 2, 4, 8] ∧ 0x80000000 < 2 ^ j.src.bits ∧
      0xFFFFFFFF < 2 ^ j.src.bits ∧ j.src.isSigned = true ∧ j.src.value 0x80000000 = j.src.minValue ∧
      j.src.value 0xFFFFFFFF = -1 ∧ (lanesOf .divide ⟨.unsignedWrap, 8⟩).src.isSigned = false := by decide +kernel

theorem witness_IntegerMinMax :
    let j := lanesOf .min ⟨.signedWrap, 1⟩
    j.src.isWrap = true ∧ j.src.size ∈ [1, 2, 4, 8] ∧ 0x80 < 2 ^ j.src.bits ∧ 0x7F < 2 ^ j.src.bits ∧ j.op = .min ∧
      j.src.isSigned = true ∧ (lanesOf .max ⟨.unsignedWrap, 8⟩).op = .max ∧
      (lanesOf .max ⟨.unsignedWrap, 8⟩).src.isSigned = false := by decide +kernel

theorem witness_LogicalLanes :
    ∀ op ∈ [Operation.and, .or, .xor, .andNot], let j := lanesOf op ⟨.float, 8⟩
      j.op = op ∧ 2 ^ 64 - 1 < 2 ^ j.src.bits ∧ 0 < 2 ^ j.src.bits := by decide +kernel

theorem witness_ControlDescriptors :
    let s := chan0 busy
    let d : DescImage := 0
    let e : LinkEntry := { kind := .ringPosition, next := 6, held := 5 }
    (let k := Channel.leave { busy Channel.reset with state := .draining, heldQuiesce := true }
     k.phase = .drained ∧ k.state = .draining ∧ k.current = none ∧ k.pendingFault = none) ∧
    (s.ch 0).current = some (copyJob 16) ∧
      ((bytesAt (putBytes d 24 8 0x80) 24 8).testBit 7 = true ∧ (0x000F7F7F).testBit 7 = false) ∧
      (bytesAt d 24 8 = 0) ∧ (s.ch 0).links.length < 4 ∧ (s.ch 0).links = [] ∧
      4 ≤ (List.replicate 4 e).length ∧ List.replicate 4 e = e :: List.replicate 3 e := by decide +kernel

/-- A fault of a beat that is pending with and without a bypass write outstanding, a descriptor with and without
Substitute-on-fault, and one of each kind. -/
theorem witness_ControlDescriptors_faults :
    let f : FaultRec := { FaultRec.reset with valid := true, kind := .memory }
    let s := chan0 fun h => { busy h with pendingFault := some f }
    ((s.ch 0).current = some (copyJob 16) ∧ (copyJob 16).fails = [] ∧ (s.ch 0).pendingFault = some f ∧
        s.bypassOutstanding 0 = false ∧ (withTag s (ofChannel .writePartial (.bypass 0 []))).bypassOutstanding 0 = true) ∧
      bitsAt (bytesAt (copyImage 16) 0 4) 7 1 = 0 ∧ bitsAt (bytesAt (copyImage 16 ||| 0x80) 0 4) 7 1 = 1 ∧
      ([1, 2, 3, 4, 5, 6, 7].map fun k => descKind (BitVec.ofNat 1024 k)) =
        [some .operation, some .setControl, some .fence, some .flush, some .call, some .ret, some .marker] ∧
      descLength (copyImage 0) = 0 ∧ descLength (copyImage 16) ≠ 0 := by decide +kernel

/-- Each clause at its edge: one below 0 and 2^64 (overflow), one byte off, outside every aperture, and the first
address of one. -/
theorem witness_AccessChecks :
    let aps := (Channel.reset.apertures).set 0 { base := 0x1000, limit := 0x1FFF, control := 3 }
    checkAddress false aps (-1) 4 false = .failed .overflow (BitVec.ofInt 64 (-1)) ∧
      checkAddress false aps (2 ^ 64) 4 false = .failed .overflow 0 ∧
      checkAddress true aps (2 ^ 64 + 0x1000) 4 false = .pass 0x1000 ∧
      checkAddress false aps 0x1001 4 false = .failed .misaligned 0x1001 ∧
      checkAddress false aps 0x0FFC 4 false = .failed .aperture 0xFFC ∧
      checkAddress false aps 0x1000 4 true = .failed .aperture 0x1000 ∧
      checkAddress false aps 0x1FFC 4 false = .pass 0x1FFC := by decide +kernel

theorem witness_SavedContextReadsBack :
    let h := busy Channel.reset
    let x := copyJob 16
    (Channel.reset.current = none ∧ descKind (2 : DescImage) ≠ some .operation) ∧ h.state = .running ∧ h.links.length ≤ 4 ∧ (∀ e ∈ h.links, e.held < 2 ^ 16) ∧ h.normal.consumer < 2 ^ 16 ∧
      h.normal.fetch < 2 ^ 16 ∧ h.current = some x ∧ x.ring = .normal ∧ descKind x.image = some .operation ∧
      x.beat < 2 ^ 32 ∧ x.committed < 2 ^ 32 ∧ x.skipped < 2 ^ 32 ∧ x.faults < 2 ^ 32 := by decide +kernel

/-- A restore with every line read: of a block of zeros, and of a valid block saved in Running. -/
theorem witness_SavedContextReadsBack_restore :
    let x (b : CsbImage) : Restore := { byUnpark := true, address := 0x4000, image := b, missing := [] }
    let s (b : CsbImage) : State := chan0 fun h => { h with state := .restoring, restore := some (x b) }
    let b := csbEncode { Channel.reset with state := .running } .running .explicit
    ((s 0).ch 0).restore = some (x 0) ∧ (x 0).missing = [] ∧ ((s 0).ch 0).state = .restoring ∧
      csbCheck ((s 0).ch 0) 0 = some .badSignature ∧ csbCheck ((s b).ch 0) b = none ∧ csbRestart b = some .continue_ ∧
      csbState b = some .running := by decide +kernel

/-! ### Single steps -/

/-- A job of length 0 that a block restored ends Empty, with no flag in its record, whatever its block held (R18). -/
theorem test_restored_empty :
    let x := { copyJob 0 with flags := 0x7F, image := putBytes (copyImage 0) 8 8 0x3000 }
    let s := chan0 fun h => { busy h with phase := .ready, current := some x }
    (s.chanStep 0).map (fun t => ((t.ch 0).phase, (t.ch 0).current.map (·.flags))) =
      some (.completing .empty false, some 0) := by decide +kernel

/-- The automatic park that the end of a restore claimed in a held Waiting channel does not outlive a Disable (R120). -/
theorem test_disable_drops_claim :
    let h := { Channel.reset with state := .waiting, claim := some .automatic }
    (h.disabled.state, h.disabled.claim) = (.draining, none) ∧
      ({ h with claim := some .explicit } : Channel).disabled.claim = some .explicit := by decide +kernel

/-- A Soft Init drops the block writes that wait for their tags, and issues the record writes that do (R113, R172). -/
theorem test_softInit_waiting :
    let save := ofChannel .writePartial .csbSave
    let record := ofChannel .writePartial (.record none)
    ({ State.reset with link := { Link.reset with waiting := [save, record] } } : State).softInit.link.waiting.map
      (fun r => (r.purpose, r.orphan)) = [(.record none, true)] := by decide +kernel

/-- Events posted at one place are numbered channels first, then the power controller, then the cache (R128). -/
theorem test_place_order :
    ({ engined fun e => { e with size := 64 } with
        place := [.post (Event.simple .deviceError none 1 0), .post (Event.simple .quiesceAck none 0 0),
          .post (Event.simple .parked (some 2) 0 0), .post (Event.simple .parked (some 1) 0 0)] } : State).numberPlace.engine.fifo.map
        (fun v => (v.kind, v.channel, v.sequence)) =
      [(.parked, some 1, 1), (.parked, some 2, 2), (.quiesceAck, none, 3), (.deviceError, none, 4)] := by decide +kernel

/-- Sweep requests of one place enter the queue by channel, the command last (R144). -/
theorem test_queue_order :
    ((((Cache.reset.request .command).request (.flush 1)).request (.flush 0)).queue.map (·.kind)) =
        [.flush 0, .flush 1, .command] ∧
      (((Cache.reset.request (.flush 1)).aged.request (.flush 0)).queue.map (·.kind)) = [.flush 1, .flush 0] := by
  decide +kernel

/-- A later beat's write of a line follows the earlier one's, also that of another channel (R40, Across beats). -/
theorem test_bypass_order :
    let first : Req := Req.write 0x1000 0xF 1 (.channel 0) (.bypass 1 [])
    let later : Req := Req.write 0x1000 0xF 2 (.channel 0) (.bypass 2 [])
    later.behind { first with waited := true } = true ∧ ({ later with owner := .channel 1 } : Req).behind first = true := by
  decide +kernel

/-- Deferred commands are judged before latched doorbells are acted on (R164 steps 4 and 5): a Disable behind a Resume is
accepted. -/
theorem test_deferred_disable :
    let h := { faulted .memory Channel.reset with
      csbAddress := 0x4000, deferred := [.resumeRetry, .disable]
      expedite := { base := 0x8000, size := 4, producer := 1, consumer := 0, fetch := 0 } }
    let s := (powered .quiescing true).modCh 0 fun _ => h
    (s.release.ch 0).state = .draining ∧ (s.release.ch 0).claim = none := by decide +kernel

/-- A held channel in Draining stays there until the release (R30, R163). -/
theorem test_drained_held :
    let s := chan0 fun h => { h with state := .draining, phase := .drained, heldQuiesce := true }
    (s.chanStep 0).isNone = true ∧
      ((s.modCh 0 fun h => { h with heldQuiesce := false }).chanStep 0).map (fun t => (t.ch 0).state) = some .disabled := by
  decide +kernel

/-- A fetch that waits for a data tag has taken nothing, and a doorbell may still retract its entry (R8, R9, R155). -/
theorem test_taking :
    let r := elementRead .fetchShared
    let x : Tag := { state := .outstanding, gen := false, stale := false, record := some { req := r, timeout := 0, count := 0 } }
    let s := chan0 fun h => { h with normal := { h.normal with base := 0x10000, size := 16, producer := 1 } }
    let full : State := { s with link := (allTags.take 12).foldl (fun l t => l.putTag t x) s.link }
    after (.enable 0) full (fun t => ((t.ch 0).phase, (t.ch 0).normal.fetch, t.link.waiting.length)) = some (.taking, 0, 2) ∧
      (after (.enable 0) full fun t => after (.ringProducer 0 0) t fun u => ((u.ch 0).state, u.link.waiting.length)) =
        some (some (.idle, 0)) := by decide +kernel

-- Resets and power (Tables 10-1, 11-1, 12-1).
theorem test_powerOn_cause :
    after .powerOnReset (powered .dormant true) (fun t => (t.readReg .resetCause, t.readReg .deviceStatus, t.sent)) =
      some (1, 0, []) := by decide +kernel
theorem test_deviceReset_cause :
    after (.deviceReset 0) (powered .dormant true) (fun t => (t.readReg .resetCause, t.device.power)) =
      some (2, .active) := by decide +kernel
theorem test_softInit_done :
    after (.softInit 0) (powered .quiesced true) (fun t => (t.device.power, t.device.softInit, t.readReg .resetCause)) =
      some (.active, false, 3) := by decide +kernel
theorem test_softInit_waits :
    after (.softInit 0) (withTag State.reset (elementRead .fetchShared)) (fun t => t.device.softInit) = some true := by
  decide +kernel
theorem test_quiesce_at_rest :
    after (.quiesce 1) State.reset (fun t => (t.device.power, t.device.quiesce)) = some (.quiesced, true) := by decide +kernel
theorem test_quiesce_waits :
    after (.quiesce 1) (withTag State.reset (elementRead .fetchShared)) (fun t => t.device.power) = some .quiescing := by
  decide +kernel
theorem test_quiesceRelease :
    after (.quiesceRelease 0) (powered .quiesced true) (fun t => (t.device.power, t.device.quiesce)) =
      some (.active, false) := by decide +kernel
theorem test_dormant_sweeps :
    after (.dormant 1) (powered .quiesced true) (fun t => (t.device.power, t.cache.sweep.map (·.kind))) =
      some (.dormantEntry, some .dormantEntry) := by decide +kernel
theorem test_dormant_rejected :
    after (.dormant 0) State.reset (fun t => (t.device.power, t.device.powerRejected)) = some (.active, true) := by
  decide +kernel
theorem test_wake :
    after (.wake 1) (powered .dormant true) (fun t => t.device.power) = some .waking := by decide +kernel
theorem test_wakeComplete :
    after .wakeComplete { powered .waking true with engine := { Engine.reset with size := 64 } }
        (fun t => (t.device.power, t.engine.fifo.map fun v => (v.kind, v.sequence))) =
      some (.quiesced, [(.wakeAck, 1)]) := by decide +kernel
theorem test_interruptEnable :
    after (.interruptEnable true) (engined fun e => { e with size := 64, tail := 1 }) (fun t => t.sent) =
      some [.regDone, .interruptAssert] := by decide +kernel

-- Cache Control.
theorem test_flushAndInvalidate :
    after (.flushAndInvalidate false) { State.reset with cache := { Cache.reset with flushDone := true } }
        (fun t => (t.cache.flushDone, t.cache.prefetchOn, t.cache.sweep.map (·.kind))) =
      some (false, false, some .command) := by decide +kernel
theorem test_siblingPrefetchEnable :
    after (.siblingPrefetchEnable false) State.reset (fun t => t.readReg .cacheControl) = some 0 := by decide +kernel

-- Channel commands (R28 to R31, R104, R114, R117).
theorem test_enable_without_ring :
    after (.enable 0) State.reset (fun t => ((t.ch 0).state, (t.ch 0).reason)) =
      some (.disabled, .ringNotConfigured) := by decide +kernel
theorem test_enable :
    after (.enable 0) (chan0 fun h => { h with normal := { h.normal with size := 16 } }) (fun t => (t.ch 0).state) =
      some .idle := by decide +kernel
theorem test_enable_with_work :
    after (.enable 0) (chan0 fun h => { h with normal := { h.normal with base := 0x10000, size := 16, producer := 1 } })
        (fun t => ((t.ch 0).state, (t.ch 0).normal.fetch, t.link.outstanding.map fun r => (r.kind, r.address))) =
      some (.running, 1, [(.readDirect, 0x10000), (.readDirect, 0x10040)]) := by decide +kernel
theorem test_disable_idle :
    after (.disable 0) (chan0 fun h => { h with state := .idle }) (fun t => (t.ch 0).state) = some .disabled := by
  decide +kernel
theorem test_disable_running :
    after (.disable 0) (chan0 busy) (fun t => (t.ch 0).state) = some .draining := by decide +kernel
theorem test_reset :
    after (.reset 0) (chan0 fun h => { busy h with acw := 0 }) (fun t => ((t.ch 0).state, (t.ch 0).acw, (t.ch 0).normal)) =
      some (.disabled, 0x00007F00, { base := 0x10000, size := 16, producer := 0, consumer := 0, fetch := 0 }) := by
  decide +kernel
theorem test_park_without_block :
    after (.park 0) (chan0 fun h => { h with state := .idle }) (fun t => (t.ch 0).reason) = some .noCsb := by decide +kernel
theorem test_park_idle :
    after (.park 0) (chan0 fun h => { h with state := .idle, csbAddress := 0x4000 })
        (fun t => ((t.ch 0).state, t.link.outstanding.map fun r => (r.kind, r.address, r.mask))) =
      some (.saving, [(.writePartial, 0x4000, 0xFF)]) := by decide +kernel
/-- Eight reads (R117): four get the control tags (R154). -/
theorem test_unpark :
    after (.unpark 0) (chan0 fun h => { h with state := .parked, csbAddress := 0x4000 })
        (fun t => ((t.ch 0).state, t.link.outstanding.map (·.address), t.link.waiting.map (·.address))) =
      some (.restoring, [0x4000, 0x4040, 0x4080, 0x40C0], [0x4100, 0x4140, 0x4180, 0x41C0]) := by decide +kernel
theorem test_resumeRetry :
    after (.resumeRetry 0) (chan0 (faulted .address)) (fun t => ((t.ch 0).state, (t.ch 0).fault.valid, (t.ch 0).phase)) =
      some (.running, false, .job) := by decide +kernel
theorem test_resumeSkip :
    after (.resumeSkip 0) (chan0 (faulted .memory)) (fun t => (t.ch 0).current.map fun x => (x.beat, x.skipped)) =
      some (some (1, 1)) := by decide +kernel
theorem test_resumeSubstitute_address :
    after (.resumeSubstitute 0) (chan0 (faulted .address)) (fun t => ((t.ch 0).state, (t.ch 0).reason)) =
      some (.faulted, .resumeNotAllowed) := by decide +kernel
theorem test_resumeSubstitute :
    after (.resumeSubstitute 0) (chan0 (faulted .arithmetic)) (fun t => ((t.ch 0).state, (t.ch 0).owedAttempt)) =
      some (.running, .fullMasked) := by decide +kernel
theorem test_resumeAbandon :
    after (.resumeAbandon 0) (chan0 fun h => { faulted .descriptor h with current := some { copyJob 16 with image := 0 } })
        (fun t => ((t.ch 0).state, (t.ch 0).normal.consumer)) = some (.idle, 6) := by decide +kernel

-- Doorbells and configuration (R7, R8, R61, R88, R90, R110).
theorem test_ringProducer_out_of_range :
    after (.ringProducer 0 16) (chan0 fun h => { h with normal := { h.normal with size := 16 } })
        (fun t => ((t.ch 0).reason, (t.ch 0).doorbellOut)) = some (.producerOutOfRange, true) := by decide +kernel
/-- The worked example of 1.6.7: producer 6 with the consumer index at 6 and the fetch position at 7. -/
theorem test_ringProducer_behind :
    let s := chan0 fun h => { h with normal := { h.normal with size := 16, producer := 8, consumer := 6, fetch := 7 } }
    after (.ringProducer 0 6) s (fun t => ((t.ch 0).reason, (t.ch 0).normal.producer)) = some (.producerBehindFetch, 8) ∧
      after (.ringProducer 0 7) s (fun t => (t.ch 0).normal.producer) = some 7 := by decide +kernel
theorem test_expediteProducer_claims :
    after (.expediteProducer 0 1) (chan0 fun h =>
        { busy h with csbAddress := 0x4000, expedite := { h.expedite with size := 4 }, owedAttempt := .ordinary })
        (fun t => (t.ch 0).claim) = some (some .automatic) := by decide +kernel
theorem test_ringSize :
    after (.ringSize 0 16) State.reset (fun t => (t.ch 0).normal.size) = some 16 ∧
      after (.ringSize 0 8) State.reset (fun t => (t.ch 0).reason) = some .ringSizeInvalid := by decide +kernel
theorem test_expediteSize :
    after (.expediteSize 0 4) State.reset (fun t => (t.ch 0).expedite.size) = some 4 ∧
      after (.expediteSize 0 128) State.reset (fun t => (t.ch 0).reason) = some .ringSizeInvalid := by decide +kernel
theorem test_ringBase :
    after (.ringBase 0 .low 0x800) State.reset (fun t => (t.ch 0).reason) = some .ringBaseMisaligned ∧
      after (.ringBase 0 .high 0x12) State.reset (fun t => (t.ch 0).normal.base) = some 0x1200000000 := by decide +kernel
theorem test_expediteBase :
    after (.expediteBase 0 .low 0x3000) State.reset (fun t => (t.ch 0).expedite.base) = some 0x3000 := by decide +kernel
theorem test_compact :
    after (.compact 0 true) (chan0 fun h => { h with csbAddress := 0x1200004000 }) (fun t => ((t.ch 0).compact, (t.ch 0).csbAddress)) =
      some (true, 0x4000) := by decide +kernel
theorem test_csbAddress :
    after (.csbAddress 0 .low 0x4100) State.reset (fun t => (t.ch 0).reason) = some .csbMisaligned ∧
      after (.csbAddress 0 .low 0x4200) State.reset (fun t => (t.ch 0).csbAddress) = some 0x4200 := by decide +kernel
theorem test_apertures :
    after (.apertureBase 0 3 .low 0x1FFF) State.reset (fun t => ((t.ch 0).apertures[3]).base) = some 0x1000 ∧
      after (.apertureLimit 0 3 .low 0x2000) State.reset (fun t => ((t.ch 0).apertures[3]).limit) = some 0x2FFF ∧
      after (.apertureControl 0 3 0xF) State.reset (fun t => ((t.ch 0).apertures[3]).control) = some 7 := by decide +kernel
theorem test_acw :
    after (.acw 0 0x80) State.reset (fun t => ((t.ch 0).acw, (t.ch 0).acwRejected)) = some (0x00007F00, true) ∧
      after (.acw 0 0x000F7F7F) State.reset (fun t => (t.ch 0).acw) = some 0x000F7F7F := by decide +kernel

-- Event queue, counters and status (R129 to R131, R157, R177, R179).
theorem test_eventQueueSize :
    after (.eventQueueSize 32) State.reset (fun t => (t.engine.size, t.device.eventConfigRejected)) = some (0, true) ∧
      after (.eventQueueSize 64) State.reset (fun t => t.engine.size) = some 64 := by decide +kernel
theorem test_eventQueueSize_zero :
    after (.eventQueueSize 0) { fullFifo with device := Device.reset } (fun t => (t.engine.fifo, t.engine.lost)) =
        some ([], 8) := by decide +kernel
theorem test_eventQueueBase :
    after (.eventQueueBase .low 0x5000) State.reset (fun t => t.engine.base) = some 0x5000 ∧
      after (.eventQueueBase .low 0x5001) State.reset (fun t => t.device.eventConfigRejected) = some true := by decide +kernel
theorem test_eventHead :
    after (.eventHead 3) (engined fun e => { e with size := 64, tail := 2 }) (fun t => (t.engine.head, t.device.eventHeadRejected)) =
        some (0, true) ∧
      after (.eventHead 2) (engined fun e => { e with size := 64, tail := 2 }) (fun t => t.engine.head) = some 2 := by
  decide +kernel
theorem test_counters :
    after (.lostEvents 7) (engined fun e => { e with lost := 9 }) (fun t => t.engine.lost) = some 0 ∧
      after (.lateResponseCount 7) { State.reset with link := { Link.reset with lateCount := 9 } } (fun t => t.link.lateCount) =
        some 0 ∧
      after (.lostWriteBackCount 7) { State.reset with cache := { Cache.reset with lostWriteBacks := 9 } }
        (fun t => t.cache.lostWriteBacks) = some 0 ∧
      after (.siblingPrefetchFailCount 7) { State.reset with cache := { Cache.reset with prefetchFails := 9 } }
        (fun t => t.cache.prefetchFails) = some 0 := by decide +kernel
theorem test_deviceStatus :
    after (.deviceStatus 0x100) { State.reset with device := { Device.reset with partialWrite := true, powerRejected := true } }
        (fun t => (t.device.partialWrite, t.device.powerRejected)) = some (false, true) := by decide +kernel
theorem test_channelStatus :
    after (.channelStatus 0 0x2000) (chan0 fun h => { h with doorbellOut := true, acwRejected := true })
        (fun t => ((t.ch 0).doorbellOut, (t.ch 0).acwRejected)) = some (false, true) := by decide +kernel
theorem test_partialRegisterWrite :
    after (.partialRegisterWrite 0x818 0x3 16) State.reset (fun t => (t.device.partialWrite, (t.ch 0).normal.size)) =
      some (true, 0) := by decide +kernel
theorem test_registerWrite :
    after (.registerWrite 0x918 16) State.reset (fun t => ((t.ch 1).normal.size, t.sent)) = some (16, [.regDone]) ∧
      after (.registerWrite 0x014 0x12345) State.reset (fun t => t.readRegister 0x014) = some 0x2345 := by decide +kernel

-- Probes (R147).
theorem test_probeShare :
    after (.probeShare 0x4010) (withLine State.reset 256 (lineIn .dirty 7)) (fun t => (t.sent, t.cache.lineState 256)) =
      some ([.probeResp (.hitDirty 7)], .shared) := by decide +kernel
theorem test_probeInvalidate :
    after (.probeInvalidate 0x4010) (withLine State.reset 256 (lineIn .exclusive 7)) (fun t => (t.sent, t.cache.lineState 256)) =
      some ([.probeResp .hitClean], .invalid) ∧
    after (.probeInvalidate 0x4010) State.reset (fun t => t.sent) = some [.probeResp .miss] := by decide +kernel

-- The beat arbiter (R33, R93, R138).
theorem test_beatGrant_reads :
    after .beatGrant (chan0 busy) (fun t => (t.normalPtr, t.link.outstanding.map fun r => (r.kind, r.address))) =
      some (0, [(.fetchShared, 0x1000)]) := by decide +kernel
theorem test_beatGrant_aperture :
    after .beatGrant (chan0 fun h => { busy h with apertures := Channel.reset.apertures })
        (fun t => ((t.ch 0).state, (t.ch 0).fault.kind, (t.ch 0).fault.sub, (t.ch 0).fault.stream, (t.ch 0).fault.address)) =
      some (.faulted, .address, .aperture, .a, 0x1000) := by decide +kernel

-- Responses (Table 9-1).
/-- A sector with its tag, one line waiting for a fill. -/
def filling : State := withLine State.reset 64 { CacheLine.reset with fill := true }

theorem test_fetchSharedData :
    after (.fetchSharedData 0 false .exclusive 7) (withTag filling (elementRead .fetchShared))
        (fun t => ((t.cache.line 64).map fun l => (l.state, l.bytes, l.fill)))
      = some (some (.exclusive, 7, false)) := by decide +kernel
theorem test_fetchSharedData_prefetches :
    after (.fetchSharedData 0 false .shared 7) (withTag filling (elementRead .fetchShared))
        (fun t => t.link.outstanding.map fun r => (r.kind, r.address, r.purpose)) =
      some [(.fetchShared, 0x1040, .prefetch)] := by decide +kernel
theorem test_siblingPrefetchData :
    after (.siblingPrefetchData 0 false .shared 7) (withTag filling (ofChannel .fetchShared .prefetch))
        (fun t => (t.cache.lineState 64, t.link.outstanding)) = some (.shared, []) := by decide +kernel
theorem test_fetchOwnedData :
    after (.fetchOwnedData 0 false .exclusive 7) (withTag filling (ofChannel .fetchOwned .acquire))
        (fun t => t.cache.lineState 64) = some .exclusive ∧
      after (.fetchOwnedData 0 false .shared 7) (withTag filling (ofChannel .fetchOwned .acquire))
        (fun t => t.cache.lineState 64) = some .invalid := by decide +kernel
theorem test_upgrade :
    let s := withTag (withLine State.reset 64 { lineIn .shared 7 with upgrade := true }) (ofChannel .upgrade .acquire)
    after (.upgradeDone 0 false) s (fun t => (t.cache.line 64).map fun l => (l.state, l.bytes)) = some (some (.exclusive, 7)) ∧
      after (.upgradeData 0 false .exclusive 9) s (fun t => (t.cache.line 64).map fun l => (l.state, l.bytes)) =
        some (some (.exclusive, 9)) := by decide +kernel
theorem test_readDirectData :
    after (.readDirectData 0 false .shared 7) (withTag State.reset { elementRead .readDirect with orphan := true })
        (fun t => ((t.link.tag 0).state, t.cache.lineState 64)) = some (.free, .invalid) := by decide +kernel
theorem test_descriptorHalfData :
    after (.descriptorHalfData 0 false .shared 7) (withTag fetching (ofChannel .readDirect (.descriptor true)))
        (fun t => (t.ch 0).phase) = some (.fetching .waiting (.got 7)) := by decide +kernel
theorem test_csbReadData :
    after (.csbReadData 0 false .shared 7) (withTag restoring (ofChannel .readDirect (.csbRead 7)))
        (fun t => (t.ch 0).restore.map fun x => (x.missing, bytesAt x.image 448 8)) = some (some ([0], 7)) := by decide +kernel
theorem test_bypassWriteDone :
    after (.bypassWriteDone 0 false) (withTag State.reset (ofChannel .writePartial (.bypass 0 [])))
        (fun t => (t.link.tag 0).state) = some .free := by decide +kernel
theorem test_completionRecordDone :
    after (.completionRecordDone 0 false) (withTag (engined fun e => { e with size := 64 })
        (ofChannel .writePartial (.record (some (Event.simple .jobComplete (some 0) 1 0)))))
        (fun t => t.engine.fifo.map (·.kind)) = some [.jobComplete] := by decide +kernel
/-- The Done of stage 1 begins stage 2 (R113): four of its eight writes get the four control tags (R154). -/
theorem test_csbWriteDone :
    after (.csbWriteDone 0 false) (withTag (chan0 fun h => { h with
        state := .saving, save := some { origin := .explicit, stage := 1, address := 0x4000, image := 0 } })
        (ofChannel .writePartial .csbSave)) (fun t => (t.link.outstanding.map (·.mask), t.link.waiting.length)) =
      some ([0xFFFFFFFFFFFFFF00, BitVec.allOnes 64, BitVec.allOnes 64, BitVec.allOnes 64], 4) := by decide +kernel
theorem test_eventRecordDone :
    after (.eventRecordDone 0 false) (withTag (engined fun e => { e with size := 64, tail := 63, head := 5 })
        (Req.plain .writePartial 0x1000 64 .engine (.event true))) (fun t => t.engine.tail) = some 0 := by decide +kernel
theorem test_writelineDone :
    after (.writelineDone 0 false) (withTag { State.reset with
        cache := { Cache.reset with evict := [{ line := 64, bytes := 0, sweep := none }] } } writeBack)
        (fun t => t.cache.evict) = some [] := by decide +kernel
theorem test_fetchFail :
    after (.fetchFail 0 false .memoryError) (withTag filling (elementRead .fetchShared))
        (fun t => (t.cache.line 64).map fun l => (l.state, l.fill)) = some (some (.invalid, false)) := by decide +kernel
theorem test_siblingPrefetchFail :
    after (.siblingPrefetchFail 0 false .memoryError) (withTag filling (ofChannel .fetchShared .prefetch))
        (fun t => t.cache.prefetchFails) = some 1 := by decide +kernel
theorem test_descriptorFetchFail :
    after (.descriptorFetchFail 0 false .decodeError) (withTag (chan0 fun h => { busy h with
        current := some { copyJob 16 with image := 0 }, phase := .fetching (.got 0) .waiting })
        (ofChannel .readDirect (.descriptor true)))
        (fun t => ((t.ch 0).state, (t.ch 0).fault.kind, (t.ch 0).fault.sub, (t.ch 0).fault.address)) =
      some (.faulted, .descriptorFetch, .decodeError, 0x102C0) := by decide +kernel
theorem test_csbReadFail :
    after (.csbReadFail 0 false .memoryError) (withTag restoring (ofChannel .readDirect (.csbRead 0)))
        (fun t => ((t.ch 0).state, (t.ch 0).cause)) = some (.error, .csbReadFailed) := by decide +kernel
theorem test_bypassWriteFail :
    after (.bypassWriteFail 0 false .memoryError) (withTag (chan0 busy) (ofChannel .writePartial (.bypass 2 [(3, 0x1000)])))
        (fun t => ((t.ch 0).state, (t.ch 0).fault.phase, (t.ch 0).fault.beat, (t.ch 0).fault.lanes)) =
      some (.faulted, .commit, 2, 8) := by decide +kernel
theorem test_completionRecordFail :
    after (.completionRecordFail 0 false .memoryError) (withTag State.reset (ofChannel .writePartial (.record none)))
        (fun t => ((t.ch 0).state, (t.ch 0).cause)) = some (.error, .completionWriteFailed) := by decide +kernel
theorem test_csbWriteFail :
    after (.csbWriteFail 0 false .memoryError) (withTag State.reset (ofChannel .writePartial .csbSave))
        (fun t => ((t.ch 0).state, (t.ch 0).cause)) = some (.error, .csbWriteFailed) := by decide +kernel
theorem test_eventRecordFail :
    after (.eventRecordFail 0 false .memoryError) (withTag State.reset (Req.plain .writePartial 0x1000 64 .engine (.event true)))
        (fun t => (t.engine.fatal, t.sent)) = some (true, [.interruptAssert]) := by decide +kernel
theorem test_writelineFail :
    after (.writelineFail 0 false .memoryError) (withTag { engined (fun e => { e with size := 64 }) with
        cache := { Cache.reset with evict := [{ line := 64, bytes := 0, sweep := none }] } } writeBack)
        (fun t => (t.cache.lostWriteBacks, t.cache.evict, t.engine.fifo.map fun v => (v.kind, v.detail))) =
      some (1, [], [(.deviceError, 0x1000)]) := by decide +kernel
theorem test_lateResponse :
    after (.lateResponse 3 true .done) State.reset (fun t => t.link.lateCount) = some 1 := by decide +kernel
theorem test_responseTimeout :
    after (.responseTimeout 0) (withTag filling (elementRead .fetchShared))
        (fun t => ((t.link.tag 0).state, (t.link.tag 0).gen, (t.link.tag 0).stale)) = some (.free, true, true) := by decide +kernel
theorem test_doze : after .doze State.reset (fun t => t.device.power) = some .doze := by decide +kernel
theorem test_sweepSet_flush :
    after .sweepSet (sweeping 0 (.flush 0)) (fun t => (t.cache.lineState 256, t.link.outstanding.map fun r => (r.kind, r.address))) =
      some (.exclusive, [(.writeLine, 0x4000)]) := by decide +kernel
theorem test_sweepSet_command :
    after .sweepSet (sweeping 0 .command) (fun t => (t.cache.lineState 256, t.cache.evict.map (·.line))) =
      some (.invalid, [256]) := by decide +kernel
/-- An event record: kind, source and sequence in the first word, and the tail at entry 1 of the queue (R127, R130). -/
theorem test_eventRecordWrite :
    after .eventRecordWrite (engined fun e => { e with
        base := 0x5000, size := 64, tail := 1, fifo := [Event.simple .wakeAck none 0 0] })
        (fun t => t.link.outstanding.map fun r => (r.kind, r.address, r.mask)) =
      some [(.writePartial, 0x5000, 0xFFFFFFFF00000000)] := by decide +kernel
/-- The last tick of a timeout puts the expiry into the queue (log 1, log 2). -/
theorem test_tick :
    let x : Tag :=
      { state := .outstanding, gen := false, stale := false
        record := some { req := elementRead .fetchShared, timeout := 10, count := 9 } }
    (match step { State.reset with link := State.reset.link.putTag 0 x } with
      | .next t => t.pending
      | _ => []) = [.responseTimeout 0] := by decide +kernel

/-! ### The worked examples of the spec -/

/-- F32 and I32. -/
def f32 : Format := ⟨.float, 4⟩
/-- See `f32`. -/
def i32 : Format := ⟨.signedWrap, 4⟩

/-- Section 2.6.3: a Min with NaNs under the default ACW. -/
theorem test_min_nan :
    let m (a b : Nat) : Nat × CondSet := let r := evalLane ctx (lanesOf .min f32) a b 0; (r.value, r.pre ||| r.post)
    m 0x3F800000 0x40000000 = (0x3F800000, 0) ∧ m 0x80000000 0 = (0x80000000, 0) ∧
      m 0x7FC00000 0x40400000 = (0x40400000, 0) ∧ m 0x40400000 0x7FC00000 = (0x7FC00000, 0) ∧
      m 0x7F800001 0x40400000 = (0x40400000, condIV) ∧ m 0x40400000 0x7F800001 = (0x7FC00001, condIV) := by decide +kernel

/-- Section 3.4.1: one tiny product under each setting of TRF. -/
theorem test_tiny_product :
    let m (trf : Bool) (b : Nat) : Nat × CondSet :=
      let r := evalLane { ctx with trf := trf } (lanesOf .multiply f32) 0x0D800000 b 0; (r.value, r.post)
    m false 0x30800000 = (0x00080000, 0) ∧ m true 0x30800000 = (0, condUN ||| condIX) ∧
      m false 0x26C00000 = (1, condUN ||| condIX) ∧ m true 0x26C00000 = (0, condUN ||| condIX) := by decide +kernel

/-- R56 and R57: conversions named in Chapter 2. -/
theorem test_convert :
    let conv (dst : Format) (src : Format) (a : Nat) : Nat × CondSet :=
      let r := evalLane ctx { lanesOf .convert src with dst := dst } a 0 0; (r.value, r.pre ||| r.post)
    conv ⟨.unsignedSat, 1⟩ ⟨.signedWrap, 2⟩ 0xFFFB = (0, condSA) ∧
      conv ⟨.unsignedWrap, 4⟩ f32 0xBECCCCCD = (0, condIX) ∧ (conv ⟨.unsignedWrap, 4⟩ f32 0xBF800000).2 = condIV ∧
      conv ⟨.unsignedSat, 1⟩ f32 0x437F6666 = (255, condIX) ∧ conv ⟨.unsignedSat, 1⟩ f32 0x437F999A = (255, condSA) := by
  decide +kernel

/-- R47: the divisions named there. -/
theorem test_divide :
    let d (a b : Nat) : Nat := (evalLane ctx (lanesOf .divide i32) a b 0).value
    d 0xFFFFFFF9 2 = 0xFFFFFFFD ∧ d 7 0xFFFFFFFE = 0xFFFFFFFD ∧ d 0x80000000 0xFFFFFFFF = 0x80000000 := by decide +kernel

/-- Sections 4.8.1 and 4.8.3: addresses, native and compact. -/
theorem test_addresses :
    let spec (base : Nat) (stride : Int) (mode k : Nat) : StreamSpec :=
      { raw := BitVec.ofNat 192 (base + (stride % 2 ^ 32).toNat * 2 ^ 128 + (mode + k * 16) * 2 ^ 160) }
    exactAddress false (spec 0x100000000 0 1 0) 4 13 = 0x100000034 ∧
      exactAddress false (spec 0x20001000 (-16) 2 0) 4 19 = 0x20000ED0 ∧
      exactAddress false (spec 0x8000 0 2 0) 4 77 = 0x8000 ∧
      exactAddress false (spec 0x30000000 0 3 12) 4 1030 = 0x30000018 ∧
      exactAddress true (spec 0xFFFFFFFFFFFFFFF0 0 1 0) 4 3 = 0xFFFFFFFC := by decide +kernel

/-- Table 2-2: lanes and beats of a job of 100 elements. -/
theorem test_lane_counts :
    let job (op src dst : Nat) : DescImage := putBytes (putBytes 0 0 4 (1 + op * 2 ^ 12 + src * 2 ^ 20 + dst * 2 ^ 26)) 4 4 100
    (descLanes (job 0 0x11 0x11), descBeats (job 0 0x11 0x11)) = (8, 13) ∧
      (descLanes (job 0 0x12 0x12), descBeats (job 0 0x12 0x12)) = (4, 25) ∧
      (descLanes (job 0 1 1), descBeats (job 0 1 1)) = (32, 4) ∧
      (descLanes (job 0 6 6), descBeats (job 0 6 6)) = (16, 7) ∧
      (descLanes (job 11 1 0x11), descBeats (job 11 1 0x11)) = (8, 13) ∧
      (descLanes (job 1 0 5), descBeats (job 1 0 5)) = (32, 4) := by decide +kernel

end Sys2Proof.Tests
end

section
/-! PROOF. One step (R1): the command at the front of the queue runs, and on an empty queue the timebase ticks. -/
namespace Sys2Proof.Machine

/-- A step with a command waiting. -/
theorem step_of_cons {s : State} {i : Instr} {rest : List Instr} (h : s.pending = i :: rest) :
    step s = exec i { s with pending := rest } := by
  unfold step
  rw [h]

/-- A step with no command waiting. -/
theorem step_of_nil {s : State} (h : s.pending = []) : step s = .next s.tick := by
  unfold step
  rw [h]

/-- Settles O1. -/
theorem stepRunsFrontCommand : Obligations.StepRunsFrontCommand := fun _ _ _ h => step_of_cons h

end Sys2Proof.Machine
end

section
/-! PROOF. The tick of the timebase (R4, R157, R161; log 1, log 2): what one tick does to a tag, to all tags, and to the
Doze timer. -/
namespace Sys2Proof.Machine

/-- The tag's request has a timeout that its count has not reached (R157). -/
def Tag.counting (x : Tag) : Bool :=
  match x.record with
  | some r => r.timeout != 0 && r.count < r.timeout
  | none => false

/-- The next tick brings the count of the tag's request to its timeout (R157). -/
def Tag.onLastTick (x : Tag) : Bool :=
  match x.record with
  | some r => r.timeout != 0 && r.count + 1 == r.timeout
  | none => false

/-- The tag after one tick (R157). -/
def Tag.ticked (x : Tag) : Tag :=
  if x.counting then { x with record := x.record.map fun r => { r with count := r.count + 1 } } else x

/-- The Doze timer counts at this tick (R161). -/
def State.dozing (s : State) : Bool :=
  s.dozeCondition && s.device.dozeDelay != 0 && decide (s.device.dozeTimer < s.device.dozeDelay)

/-- A tick changes no request that holds a tag. -/
theorem Tag.ticked_req (x : Tag) : x.ticked.record.map (·.req) = x.record.map (·.req) := by
  unfold Tag.ticked
  split
  · simp [Function.comp_def]
  · rfl

/-- Only a tag that counts can be on its last tick. -/
theorem Tag.onLastTick_of_not_counting {x : Tag} (h : x.counting = false) : x.onLastTick = false := by
  unfold Tag.counting at h
  unfold Tag.onLastTick
  split
  · next r hr =>
    simp only [hr, Bool.and_eq_false_iff, decide_eq_false_iff_not, beq_eq_false_iff_ne] at h ⊢
    rcases h with h | h
    · exact .inl h
    · exact .inr (by omega)
  · rfl

/-- Writing a tag back changes nothing. -/
@[simp] theorem Link.putTag_tag (l : Link) (t : TagId) : l.putTag t (l.tag t) = l := by
  simp [Link.putTag, Link.tag]

/-- One tick of one tag. -/
theorem State.tickTag_eq (s : State) (t : TagId) :
    s.tickTag t = { s with
      link := s.link.putTag t (s.link.tag t).ticked
      pending := s.pending ++ if (s.link.tag t).onLastTick then [.responseTimeout t] else [] } := by
  have hl := Tag.onLastTick_of_not_counting (x := s.link.tag t)
  cases hr : (s.link.tag t).record with
  | none => simp [State.tickTag, Tag.ticked, Tag.counting, Tag.onLastTick, hr]
  | some r =>
    cases hk : (r.timeout != 0 && decide (r.count < r.timeout)) with
    | false =>
      have hc : (s.link.tag t).counting = false := by simp only [Tag.counting, hr, hk]
      simp [State.tickTag, Tag.ticked, hr, hk, hc, hl hc]
    | true =>
      have hc : (s.link.tag t).counting = true := by simp only [Tag.counting, hr, hk]
      have h0 : (r.timeout != 0) = true := (Bool.and_eq_true_iff.1 hk).1
      simp only [State.tickTag, hr, hk, if_true]
      simp only [Tag.ticked, Tag.onLastTick, hr, hc, h0, if_true, Bool.true_and, Option.map_some]
      split <;> simp

/-- The link after one tick of tag `t`. -/
def Link.tickTag (l : Link) (t : TagId) : Link := l.putTag t (l.tag t).ticked

/-- The link after one tick of the tags `ts`. -/
def Link.ticked (l : Link) (ts : List TagId) : Link := ts.foldl Link.tickTag l

/-- The tags that a tick reaches are the ticked ones. -/
theorem Link.ticked_tag (l : Link) {ts : List TagId} (hn : ts.Nodup) (t : TagId) :
    (l.ticked ts).tag t = if t ∈ ts then (l.tag t).ticked else l.tag t :=
  Link.tag_foldl (g := Link.tickTag) (fun l t u => l.tag_putTag t u _) t ts l hn

/-- A tick of the tags keeps the rest of the link. -/
theorem Link.ticked_rest (l : Link) (ts : List TagId) :
    (l.ticked ts).waiting = l.waiting ∧ (l.ticked ts).responseTimeout = l.responseTimeout ∧
      (l.ticked ts).lateCount = l.lateCount :=
  ⟨Link.foldl_keeps (g := Link.tickTag) (p := Link.waiting) (fun _ _ => rfl) ts l,
    Link.foldl_keeps (g := Link.tickTag) (p := Link.responseTimeout) (fun _ _ => rfl) ts l,
    Link.foldl_keeps (g := Link.tickTag) (p := Link.lateCount) (fun _ _ => rfl) ts l⟩

/-- A tick leaves the link as still as it was (R161). -/
theorem Link.ticked_still (l : Link) : (l.ticked allTags).still = l.still := by
  obtain ⟨hw, -, -⟩ := l.ticked_rest allTags
  unfold Link.still Link.outstanding
  simp only [hw, l.ticked_tag nodup_allTags, mem_allTags, if_true, Tag.ticked_req]

/-- One tick of several tags: the expiries are queued in the order of the tags (log 2). -/
theorem State.tickTags_eq : ∀ (ts : List TagId) (s : State), ts.Nodup →
    ts.foldl State.tickTag s = { s with
      link := s.link.ticked ts
      pending := s.pending ++ (ts.filter fun t => (s.link.tag t).onLastTick).map .responseTimeout }
  | [], s, _ => by simp [Link.ticked]
  | t :: ts, s, hn => by
    obtain ⟨ht, hts⟩ := List.nodup_cons.1 hn
    have hlater : (ts.filter fun u => ((s.link.putTag t (s.link.tag t).ticked).tag u).onLastTick) =
        ts.filter fun u => (s.link.tag u).onLastTick :=
      List.filter_congr fun u hu => by
        rw [Link.tag_putTag, if_neg (ne_of_mem_of_not_mem hu ht)]
    rw [List.foldl_cons, State.tickTags_eq ts _ hts, State.tickTag_eq]
    simp only [hlater, Link.ticked, Link.tickTag, List.foldl_cons, List.filter_cons, List.append_assoc]
    split <;> simp

/-- One tick of the Doze timer. -/
theorem State.tickDoze_eq (s : State) :
    s.tickDoze = { s with
      device := if s.dozing then { s.device with dozeTimer := s.device.dozeTimer + 1 } else s.device
      pending := s.pending ++
        if s.dozing && s.device.dozeTimer + 1 == s.device.dozeDelay then [.doze] else [] } := by
  unfold State.tickDoze
  cases h : s.dozing with
  | false =>
    unfold State.dozing at h
    simp [h]
  | true =>
    unfold State.dozing at h
    simp only [h, if_true, Bool.true_and]
    split <;> simp

/-- The state after the counts of one tick, before the part goes on. -/
def State.counted (s : State) : State := (allTags.foldl State.tickTag s.begin).tickDoze

/-- What the Doze timer looks at (R161). -/
theorem State.dozing_congr {s t : State} (hd : t.device = s.device) (hc : t.chans = s.chans)
    (hl : t.link.still = s.link.still) (hk : t.cache = s.cache) (he : t.engine = s.engine) : t.dozing = s.dozing := by
  unfold State.dozing State.dozeCondition
  simp only [hd, State.ch_congr hc, hl, hk, he]

/-- All that the counts of one tick change, on an empty queue. -/
theorem State.counted_eq {s : State} (h : s.pending = []) :
    s.counted = { s.begin with
      link := s.link.ticked allTags
      device := if s.dozing then { s.device with dozeTimer := s.device.dozeTimer + 1 } else s.device
      pending := ((allTags.filter fun t => (s.link.tag t).onLastTick).map .responseTimeout) ++
        if s.dozing && s.device.dozeTimer + 1 == s.device.dozeDelay then [.doze] else [] } := by
  have hd : (allTags.foldl State.tickTag s.begin).dozing = s.dozing := by
    rw [State.tickTags_eq _ _ nodup_allTags]
    exact State.dozing_congr rfl rfl s.link.ticked_still rfl rfl
  unfold State.counted
  rw [State.tickDoze_eq, hd, State.tickTags_eq _ _ nodup_allTags]
  simp only [State.begin_link, State.begin_pending, State.begin_device, h, List.nil_append]
  rfl

/-- Settles O4: the counts of one tick, tag by tag and for the Doze timer, and then the part goes on. -/
theorem emptyQueueTicks : Obligations.EmptyQueueTicks := by
  intro s h counts last dozing
  have e := s.counted_eq h
  obtain ⟨hw, ht, hl⟩ := s.link.ticked_rest allTags
  refine ⟨s.counted, step_of_nil h, fun t => ?_, ?_⟩
  · rw [e]
    show (s.link.ticked allTags).tag t = (s.link.tag t).ticked
    rw [s.link.ticked_tag nodup_allTags, if_pos (mem_allTags t)]
  · rw [e]
    exact ⟨hw, ht, hl, rfl, rfl, rfl, rfl, rfl, rfl, rfl, rfl, rfl, rfl⟩

end Sys2Proof.Machine
end

section
/-! PROOF. The queue of waiting commands through everything a command does (R1, R158): no action of the part reads or
changes it, but the step that takes its front and the tick.  One lemma per function of the model that makes a state, in the
order of the model; `∀ t ∈ f s, …` where it makes one only sometimes. -/
namespace Sys2Proof.Machine

variable {s : State}

/-! ### Changes made in turn -/

/-- What every change of a list keeps, all of them made in turn keep. -/
theorem foldl_keeps {α β γ : Type} {g : β → α → β} {p : β → γ} (hg : ∀ b a, p (g b a) = p b) :
    ∀ (xs : List α) (b : β), p (xs.foldl g b) = p b
  | [], _ => rfl
  | x :: xs, b => by rw [List.foldl_cons, foldl_keeps hg xs, hg]

/-- Changes made in turn, none of which touches the queue. -/
theorem foldl_pending {α : Type} {g : State → α → State} (hg : ∀ s a, (g s a).pending = s.pending) (xs : List α)
    (s : State) : (xs.foldl g s).pending = s.pending := foldl_keeps hg xs s

/-- Changes tried in turn, none of which touches the queue. -/
theorem tryEach_pending {α : Type} {f : State → α → Option State} (hf : ∀ s a, ∀ t ∈ f s a, t.pending = s.pending)
    (xs : List α) (s : State) : ∀ t ∈ tryEach f s xs, t.pending = s.pending := by
  intro t ht
  unfold tryEach at ht
  dsimp only at ht
  split at ht
  · rw [← Option.some.inj ht]
    refine foldl_keeps (p := fun acc : State × Bool => acc.1.pending) (fun acc a => ?_) xs (s, false)
    split
    · next u hu => exact hf acc.1 a u hu
    · rfl
  · cases ht

@[simp] theorem State.forChans_pending {f : Chan → State → State} (hf : ∀ c s, (f c s).pending = s.pending) :
    (s.forChans f).pending = s.pending := foldl_pending (fun s c => hf c s) _ _

/-- What is made of a value, if there is one. -/
theorem map_pending {α : Type} {f : α → State} (hf : ∀ a, (f a).pending = s.pending) (o : Option α) :
    ∀ t ∈ o.map f, t.pending = s.pending := by
  intro t ht
  obtain ⟨a, -, rfl⟩ := Option.mem_map.1 ht
  exact hf a

/-! ### Requests, the link and the cache -/

@[simp] theorem State.withdraw_pending (p : Req → Bool) : (s.withdraw p).pending = s.pending := rfl
@[simp] theorem State.evictLine_pending (n : Nat) (bytes : Line) (sweep : Option Nat) :
    (s.evictLine n bytes sweep).pending = s.pending := rfl
@[simp] theorem State.dropClean_pending (n : Nat) : (s.dropClean n).pending = s.pending := rfl
@[simp] theorem State.leaveEviction_pending (n : Nat) : (s.leaveEviction n).pending = s.pending := rfl

@[simp] theorem State.deliverRead_pending (r : Req) (bytes : Line) : (s.deliverRead r bytes).pending = s.pending := by
  unfold State.deliverRead
  split
  · rfl
  · split <;> rfl

@[simp] theorem State.issueRecord_pending (t : TagId) (c : Chan) (r : Req) :
    (s.issueRecord t c r).pending = s.pending := by
  unfold State.issueRecord
  cases r.orphan <;> dsimp only <;> split <;> rfl

@[simp] theorem State.issueEvent_pending (t : TagId) (r : Req) : (s.issueEvent t r).pending = s.pending := by
  unfold State.issueEvent
  split
  · rfl
  · split <;> rfl

@[simp] theorem State.takeFor_pending (r : Req) : (s.takeFor r).pending = s.pending := by
  unfold State.takeFor
  split
  · split <;> rfl
  · rfl

@[simp] theorem State.issueByClass_pending (t : TagId) (r : Req) : (s.issueByClass t r).pending = s.pending := by
  unfold State.issueByClass
  dsimp only
  split <;> simp [apply_ite State.pending]

theorem State.serve_pending : ∀ t ∈ s.serve, t.pending = s.pending := by
  unfold State.serve
  split
  · simp
  · split <;> simp

/-! ### The cache at work for a beat -/

@[simp] theorem State.evictIfDirty_pending (i : SetId) (w : CacheWay) (upper : Bool) (sweep : Option Nat) :
    (s.evictIfDirty i w upper sweep).pending = s.pending := by
  unfold State.evictIfDirty
  dsimp only
  split <;> rfl

theorem State.takeWay_pending (n : Nat) : ∀ t ∈ s.takeWay n, t.pending = s.pending := by
  unfold State.takeWay
  dsimp only
  split
  · simp
  · split <;> simp

@[simp] theorem State.touchOnce_pending (i : SetId) (w : WayId) : (s.touchOnce i w).pending = s.pending := by
  unfold State.touchOnce
  split
  · split <;> rfl
  · rfl

@[simp] theorem State.noteTouched_pending (n : Nat) : (s.noteTouched n).pending = s.pending := by
  unfold State.noteTouched
  split <;> rfl

@[simp] theorem State.askFill_pending (c : Chan) (n : Nat) (kind : ReqKind) (purpose : Purpose) :
    (s.askFill c n kind purpose).pending = s.pending := rfl
@[simp] theorem State.setAccess_pending (i : Nat) (x : AccessState) : (s.setAccess i x).pending = s.pending := rfl
@[simp] theorem State.pin_pending (n : Nat) : (s.pin n).pending = s.pending := rfl
@[simp] theorem State.setAcq_pending (n : Nat) (x : AcqState) : (s.setAcq n x).pending = s.pending := rfl
@[simp] theorem State.dropUpgrade_pending (n : Nat) : (s.dropUpgrade n).pending = s.pending := rfl
@[simp] theorem State.releasePins_pending (b : Beat) : (s.releasePins b).pending = s.pending := rfl

/-- What is done to a way that has been taken. -/
theorem State.takeWay_map_pending (n : Nat) {f : State → State} (hf : ∀ u, (f u).pending = u.pending) :
    ∀ t ∈ (s.takeWay n).map f, t.pending = s.pending := by
  intro t ht
  obtain ⟨u, hu, rfl⟩ := Option.mem_map.1 ht
  rw [hf, s.takeWay_pending n u hu]

theorem State.readCached_pending (c : Chan) (i : Nat) (a : Access) :
    ∀ t ∈ s.readCached c i a, t.pending = s.pending := by
  unfold State.readCached
  dsimp only
  split
  · split
    · simp
    · split
      · simp
      · split <;> simp
  · exact State.takeWay_map_pending _ fun u => by simp

@[simp] theorem State.readDirect_pending (c : Chan) (i : Nat) (a : Access) :
    (s.readDirect c i a).pending = s.pending := by
  unfold State.readDirect
  extract_lets n mark ask
  have hask : (ask s).pending = s.pending := by
    dsimp only [ask]
    split <;> rfl
  split
  · split
    · rfl
    · exact hask
  · exact hask

theorem State.readOne_pending (c : Chan) (i : Nat) : ∀ t ∈ s.readOne c i, t.pending = s.pending := by
  unfold State.readOne
  split
  · simp
  · split
    · simp
    · split
      · exact s.readCached_pending c i _
      · simp

theorem State.readPass_pending (c : Chan) : ∀ t ∈ s.readPass c, t.pending = s.pending := by
  unfold State.readPass
  split
  · simp
  · exact tryEach_pending (fun s i => s.readOne_pending c i) _ _

@[simp] theorem State.takeFill_pending (n : Nat) (bytes : Line) : (s.takeFill n bytes).pending = s.pending := rfl
@[simp] theorem State.failFill_pending (n : Nat) (reason : FailReason) : (s.failFill n reason).pending = s.pending := rfl
@[simp] theorem State.reopenAcq_pending (n : Nat) : (s.reopenAcq n).pending = s.pending := rfl
@[simp] theorem State.upgradeDone_pending (n : Nat) : (s.upgradeDone n).pending = s.pending := rfl
@[simp] theorem State.upgradeData_pending (n : Nat) (bytes : Line) : (s.upgradeData n bytes).pending = s.pending := rfl
@[simp] theorem State.lineFail_pending (r : Req) (reason : FailReason) : (s.lineFail r reason).pending = s.pending := rfl

@[simp] theorem State.considerPrefetch_pending (c : Chan) (n : Nat) : (s.considerPrefetch c n).pending = s.pending := by
  unfold State.considerPrefetch
  split <;> rfl

@[simp] theorem State.fillData_pending (r : Req) (state : LineState) (bytes : Line) :
    (s.fillData r state bytes).pending = s.pending := by
  unfold State.fillData
  dsimp only
  split <;> simp

theorem State.acquireOne_pending (c : Chan) (q : Acq) : ∀ t ∈ s.acquireOne c q, t.pending = s.pending := by
  unfold State.acquireOne
  extract_lets n waits x
  split
  · simp
  · split
    · extract_lets l pinned s'
      have hp : ∀ t ∈ pinned, t.pending = s.pending := by
        dsimp only [pinned]
        split <;> simp [apply_ite State.pending]
      have hs' : s'.pending = s.pending := by
        dsimp only [s']
        cases h : pinned with
        | none => rfl
        | some t => exact hp t h
      split
      · exact hp
      · split
        · split
          · exact hp
          · simp [hs']
        · simp [hs', apply_ite State.pending]
    · split
      · simp
      · exact State.takeWay_map_pending _ fun u => by simp

theorem State.acquirePass_pending (c : Chan) : ∀ t ∈ s.acquirePass c, t.pending = s.pending := by
  unfold State.acquirePass
  split
  · simp
  · refine tryEach_pending (fun s q => ?_) _ _
    split
    · exact s.acquireOne_pending c _
    · simp

/-! ### The channel sequencer -/

@[simp] theorem State.orphan_pending (p : Req → Bool) : (s.orphan p).pending = s.pending := by
  simp only [State.orphan]
@[simp] theorem State.giveUp_pending (p : Req → Bool) : (s.giveUp p).pending = s.pending := by
  simp [State.giveUp]

@[simp] theorem State.releaseGrant_pending (c : Chan) : (s.releaseGrant c).pending = s.pending := by
  unfold State.releaseGrant
  split
  · split <;> rfl
  · rfl

@[simp] theorem State.discardBeat_pending (c : Chan) : (s.discardBeat c).pending = s.pending := by
  unfold State.discardBeat
  split
  · split <;> simp
  · rfl

@[simp] theorem State.enterFaulted_pending (c : Chan) (f : FaultRec) : (s.enterFaulted c f).pending = s.pending := by
  simp [State.enterFaulted]

@[simp] theorem State.raiseBeatFault_pending (c : Chan) (f : FaultRec) :
    (s.raiseBeatFault c f).pending = s.pending := by
  simp [State.raiseBeatFault]

theorem State.settleFault_pending (c : Chan) (h : Channel) : ∀ t ∈ s.settleFault c h, t.pending = s.pending := by
  unfold State.settleFault
  split
  · simp
  · split
    · split
      · simp
      · exact map_pending (fun f => s.enterFaulted_pending c f) _
    · simp

@[simp] theorem State.enterError_pending (c : Chan) (cause : ErrCause) (kind : EventKind) (detail : Word64) :
    (s.enterError c cause kind detail).pending = s.pending := by
  unfold State.enterError
  split <;> simp

@[simp] theorem State.complete_pending (c : Chan) (status : Status) : (s.complete c status).pending = s.pending := by
  unfold State.complete
  dsimp only
  split
  · rfl
  · split
    · split <;> simp
    · simp

@[simp] theorem State.fetchHalf_pending (c : Chan) (address : Nat) (upper : Bool) :
    (s.fetchHalf c address upper).pending = s.pending := by
  unfold State.fetchHalf
  dsimp only
  split
  · split <;> simp
  · rfl

@[simp] theorem State.fetchHalves_pending (c : Chan) (ring : RingId) (location : Word64) :
    (s.fetchHalves c ring location).pending = s.pending := by
  simp [State.fetchHalves]

@[simp] theorem State.startFetch_pending (c : Chan) (ring : RingId) (location : Word64) :
    (s.startFetch c ring location).pending = s.pending := by
  simp [State.startFetch]

@[simp] theorem State.startTaking_pending (c : Chan) (ring : RingId) (location : Word64) :
    (s.startTaking c ring location).pending = s.pending := by
  simp [State.startTaking]

@[simp] theorem State.stopTaking_pending (c : Chan) : (s.stopTaking c).pending = s.pending := rfl

@[simp] theorem State.fetched_pending (c : Chan) (lo hi : FetchHalf) : (s.fetched c lo hi).pending = s.pending := by
  unfold State.fetched
  dsimp only
  split
  · simp
  · simp
  · split <;> simp
  · rfl

@[simp] theorem State.execSetControl_pending (c : Chan) (h : Channel) (x : Current) :
    (s.execSetControl c h x).pending = s.pending := by
  unfold State.execSetControl
  dsimp only
  split <;> simp

@[simp] theorem State.execFence_pending (c : Chan) : (s.execFence c).pending = s.pending := by
  unfold State.execFence
  split <;> simp

@[simp] theorem State.execFlush_pending (c : Chan) : (s.execFlush c).pending = s.pending := rfl

@[simp] theorem State.execCall_pending (c : Chan) (h : Channel) (x : Current) :
    (s.execCall c h x).pending = s.pending := by
  unfold State.execCall
  split <;> simp

@[simp] theorem State.execReturn_pending (c : Chan) (h : Channel) : (s.execReturn c h).pending = s.pending := by
  unfold State.execReturn
  split <;> simp

@[simp] theorem State.execute_pending (c : Chan) (h : Channel) (x : Current) : (s.execute c h x).pending = s.pending := by
  unfold State.execute
  split
  · split <;> simp
  all_goals simp

@[simp] theorem State.saveStage_pending (c : Chan) (v : Save) : (s.saveStage c v).pending = s.pending :=
  foldl_pending State.ask_pending _ _

@[simp] theorem State.beginSave_pending (c : Chan) (origin : Origin) : (s.beginSave c origin).pending = s.pending := by
  simp [State.beginSave]

@[simp] theorem State.saveDone_pending (c : Chan) (v : Save) : (s.saveDone c v).pending = s.pending := by
  unfold State.saveDone
  split <;> rfl

theorem State.saveStep_pending (c : Chan) (h : Channel) : ∀ t ∈ s.saveStep c h, t.pending = s.pending := by
  unfold State.saveStep
  split
  · simp
  · split
    · simp
    · split <;> simp

@[simp] theorem State.beginRestore_pending (c : Chan) (byUnpark : Bool) :
    (s.beginRestore c byUnpark).pending = s.pending := rfl

@[simp] theorem State.applyRestart_pending (c : Chan) (choice : Restart) :
    (s.applyRestart c choice).pending = s.pending := by
  cases choice <;> simp [State.applyRestart]

theorem State.restoreStep_pending (c : Chan) (h : Channel) : ∀ t ∈ s.restoreStep c h, t.pending = s.pending := by
  unfold State.restoreStep
  split
  · simp
  · split
    · simp
    · split <;> simp [apply_ite State.pending]

@[simp] theorem State.expediteEnd_pending (c : Chan) (h : Channel) : (s.expediteEnd c h).pending = s.pending := by
  unfold State.expediteEnd
  split
  · split <;> simp
  · split <;> simp
  · split <;> simp
  · simp

theorem State.applyHold_pending (c : Chan) (h : Channel) : ∀ t ∈ s.applyHold c h, t.pending = s.pending := by
  unfold State.applyHold
  dsimp only
  split <;> simp

theorem State.endDrain_pending (c : Chan) (h : Channel) : ∀ t ∈ s.endDrain c h, t.pending = s.pending := by
  unfold State.endDrain
  split <;> simp

@[simp] theorem State.chooseNext_pending (c : Chan) (h : Channel) : (s.chooseNext c h).pending = s.pending := by
  unfold State.chooseNext
  split
  · simp
  · split <;> simp

theorem State.workStep_pending (c : Chan) (h : Channel) : ∀ t ∈ s.workStep c h, t.pending = s.pending := by
  unfold State.workStep
  split
  · next u hu => simpa using s.settleFault_pending c h u hu
  · split
    · simp
    · cases h.phase with
      | choose =>
        dsimp only
        split
        · simp
        · split <;> simp
      | taking => dsimp only; split <;> simp
      | fetching lo hi => dsimp only; split <;> simp
      | ready =>
        dsimp only
        split
        · simp
        · split
          · simp
          · exact map_pending (fun x => s.execute_pending c h x) _
      | job =>
        dsimp only
        split
        · simp
        · exact map_pending (fun o => s.beginSave_pending c o) _
      | ending =>
        dsimp only
        split
        · simp
        · split
          · simp
          · exact map_pending (fun x : Current => s.complete_pending c x.endStatus) _
      | fence => dsimp only; split <;> simp
      | flushing sweep =>
        cases sweep with
        | none => simp
        | some n => dsimp only; split <;> simp
      | completing status issued => dsimp only; split <;> simp
      | drained => dsimp only; split <;> simp

theorem State.idleStep_pending (c : Chan) (h : Channel) : ∀ t ∈ s.idleStep c h, t.pending = s.pending := by
  unfold State.idleStep
  split
  · simp
  · split
    · simp
    · split
      · simp
      · split <;> simp

theorem State.waitStep_pending (c : Chan) (h : Channel) : ∀ t ∈ s.waitStep c h, t.pending = s.pending := by
  unfold State.waitStep
  split
  · simp
  · split
    · simp
    · split
      · simp
      · split <;> simp

theorem State.chanStep_pending (c : Chan) : ∀ t ∈ s.chanStep c, t.pending = s.pending := by
  unfold State.chanStep
  extract_lets h
  split
  · next u hu => simpa using s.endDrain_pending c h u hu
  · split
    · next u hu => simpa using s.applyHold_pending c h u hu
    · split
      · simp
      · simp
      · simp
      · exact s.idleStep_pending c h
      · exact s.workStep_pending c h
      · exact s.workStep_pending c h
      · exact s.workStep_pending c h
      · exact s.waitStep_pending c h
      · split <;> simp
      · exact s.saveStep_pending c h
      · exact s.restoreStep_pending c h

@[simp] theorem State.channelReset_pending (c : Chan) : (s.channelReset c).pending = s.pending := by
  simp [State.channelReset]

/-! ### The beat -/

theorem State.arbiterChoice_pending : ∀ x ∈ s.arbiterChoice, x.2.pending = s.pending := by
  unfold State.arbiterChoice
  split
  · simp
  · split <;> simp

@[simp] theorem State.startAttempt_pending (c : Chan) (fullMasked : Bool) :
    (s.startAttempt c fullMasked).pending = s.pending := by
  unfold State.startAttempt
  dsimp only
  split
  · rfl
  · split <;> simp

@[simp] theorem State.indexDone_pending (b : Beat) (h : Channel) (x : Current) :
    (s.indexDone b h x).pending = s.pending := by
  unfold State.indexDone
  dsimp only
  split <;> simp

@[simp] theorem State.arithmeticStop_pending (b : Beat) (x : Current) (conds : CondSet) (f : FaultRec) :
    (s.arithmeticStop b x conds f).pending = s.pending := by
  unfold State.arithmeticStop
  dsimp only
  split <;> simp

@[simp] theorem State.compute_pending (b : Beat) (h : Channel) (x : Current) :
    (s.compute b h x).pending = s.pending := by
  unfold State.compute
  extract_lets
  split
  · exact s.arithmeticStop_pending ..
  · split
    · exact s.arithmeticStop_pending ..
    · rfl

theorem State.failStage_pending (c : Chan) (f : FaultRec) : ∀ t ∈ s.failStage c f, t.pending = s.pending := by
  unfold State.failStage
  dsimp only
  split
  · simp
  · split <;> simp

@[simp] theorem State.writeCached_pending (size : Nat) (l : DestLane) : (s.writeCached size l).pending = s.pending := by
  unfold State.writeCached
  dsimp only
  split <;> simp

@[simp] theorem State.clearBypassLine_pending (n : Nat) : (s.clearBypassLine n).pending = s.pending := by
  unfold State.clearBypassLine
  split
  · split <;> rfl
  · rfl

@[simp] theorem State.commit_pending (b : Beat) (x : Current) : (s.commit b x).pending = s.pending := by
  unfold State.commit
  simp only [State.modCh_pending]
  rw [foldl_pending fun _ _ => State.ask_pending .., foldl_pending fun _ _ => State.clearBypassLine_pending _]
  simp only [State.releasePins_pending]
  rw [foldl_pending fun _ _ => State.writeCached_pending ..]
  rfl

theorem State.beatStep_pending : ∀ t ∈ s.beatStep, t.pending = s.pending := by
  unfold State.beatStep
  split
  · simp
  · next b _ =>
    extract_lets h
    split
    · simp
    · next x _ =>
      cases b.stage with
      | scatter =>
        dsimp only
        split
        · exact s.failStage_pending _ _
        · split
          · next u hu => simpa using s.acquirePass_pending _ u hu
          · split <;> simp
      | index | source =>
        dsimp only
        split
        · exact s.failStage_pending _ _
        · split
          · simp
          · exact s.readPass_pending _

@[simp] theorem State.grantBeat_pending : s.grantBeat.pending = s.pending := by
  unfold State.grantBeat
  split
  · rfl
  · split
    · rfl
    · next c u hu => simpa using s.arbiterChoice_pending (c, u) hu

/-! ### Sweeps, the power controller, and settling -/

theorem State.startSweep_pending : ∀ t ∈ s.startSweep, t.pending = s.pending := by
  unfold State.startSweep
  split
  · dsimp only
    split <;> simp
  · simp

theorem State.endCommandSweep_pending : ∀ t ∈ s.endCommandSweep, t.pending = s.pending := by
  unfold State.endCommandSweep
  split <;> simp

@[simp] theorem State.sweepLine_pending (sweep : Sweep) (i : SetId) (w : WayId) (upper : Bool) :
    (s.sweepLine sweep i w upper).pending = s.pending := by
  unfold State.sweepLine
  dsimp only
  split
  · split <;> rfl
  all_goals
    split
    · rfl
    · split
      · rfl
      · split <;> rfl

@[simp] theorem State.sweepNext_pending : s.sweepNext.pending = s.pending := by
  unfold State.sweepNext
  split
  · rfl
  · dsimp only
    split
    · rfl
    · rw [State.modCache_pending, foldl_pending fun _ _ => by simp]

@[simp] theorem State.ack_pending (kind : EventKind) : (s.ack kind).pending = s.pending := rfl

theorem State.dormantNext_pending : ∀ t ∈ s.dormantNext, t.pending = s.pending := by
  unfold State.dormantNext
  split
  · simp
  · split <;> simp
  · split
    · split <;> simp
    · simp
  · split
    · simp
    · split <;> simp

theorem State.softInitDone_pending : ∀ t ∈ s.softInitDone, t.pending = s.pending := by
  unfold State.softInitDone
  split
  · simp [State.forChans_pending fun _ _ => State.modCh_pending ..]
  · simp

theorem State.quiescingDone_pending : ∀ t ∈ s.quiescingDone, t.pending = s.pending := by
  unfold State.quiescingDone
  split <;> simp

/-- Nothing that the part does of its own accord touches the queue of waiting commands (log 6). -/
theorem State.progress_pending {t : State} (h : s.progress = some t) : t.pending = s.pending := by
  obtain ⟨c, h⟩ | h | h | h | h | h | h | h := State.progress_cases h
  · exact s.chanStep_pending c t h
  · exact s.beatStep_pending t h
  · exact s.serve_pending t h
  · exact s.endCommandSweep_pending t h
  · exact s.startSweep_pending t h
  · exact s.softInitDone_pending t h
  · exact s.quiescingDone_pending t h
  · exact s.dormantNext_pending t h

@[simp] theorem State.settle_pending : s.settle.pending = s.pending :=
  settleLoop_induction (P := fun u => u.pending = s.pending) (fun _ _ hu h => (State.progress_pending h).trans hu) _ s rfl

@[simp] theorem State.settleClose_pending : s.settleClose.pending = s.pending := by
  simp [State.settleClose]

/-! ### Resets and channel commands -/

@[simp] theorem State.powerOn_pending : s.powerOn.pending = s.pending := rfl
@[simp] theorem State.deviceReset_pending : s.deviceReset.pending = s.pending := rfl
@[simp] theorem State.softInitAgain_pending : s.softInitAgain.pending = s.pending := by
  rw [State.softInitAgain, State.forChans_pending fun _ _ => State.modCh_pending ..]

@[simp] theorem State.softInit_pending : s.softInit.pending = s.pending := by
  unfold State.softInit
  split
  · simp
  · dsimp only
    rw [State.forChans_pending fun _ _ => State.modCh_pending .., State.orphan_pending]
    exact foldl_pending (fun _ c => State.releaseGrant_pending c) allChans s

@[simp] theorem State.retry_pending (c : Chan) (f : FaultRec) : (s.retry c f).pending = s.pending := by
  unfold State.retry
  split <;> simp

@[simp] theorem State.abandon_pending (c : Chan) (f : FaultRec) : (s.abandon c f).pending = s.pending := by
  unfold State.abandon
  split <;> simp

@[simp] theorem State.resume_pending (c : Chan) (cmd : ChanCmd) : (s.resume c cmd).pending = s.pending := by
  cases cmd <;> simp [State.resume]

@[simp] theorem State.acceptPark_pending (c : Chan) : (s.acceptPark c).pending = s.pending := by
  unfold State.acceptPark
  dsimp only
  split
  case h_3 => split <;> simp
  all_goals simp

@[simp] theorem State.accept_pending (c : Chan) (cmd : ChanCmd) : (s.accept c cmd).pending = s.pending := by
  cases cmd <;> simp [State.accept]

@[simp] theorem State.judge_pending (c : Chan) (cmd : ChanCmd) : (s.judge c cmd).pending = s.pending := by
  unfold State.judge
  split
  · simp
  · split
    · simp
    · split
      · simp
      · split <;> simp

@[simp] theorem State.judgeNow_pending (c : Chan) (cmd : ChanCmd) : (s.judgeNow c cmd).pending = s.pending := by
  unfold State.judgeNow
  dsimp only
  split <;> simp

@[simp] theorem State.command_pending (c : Chan) (cmd : ChanCmd) : (s.command c cmd).pending = s.pending := by
  unfold State.command
  split
  · simp
  · split <;> simp

@[simp] theorem State.release_pending : s.release.pending = s.pending := by
  unfold State.release
  dsimp only
  rw [State.forChans_pending fun _ _ => State.modCh_pending ..,
    State.forChans_pending fun _ _ => foldl_pending (fun _ _ => State.judge_pending ..) ..,
    State.forChans_pending fun _ _ => State.modCh_pending ..]

@[simp] theorem State.controlEffect_pending (w : Word32) : (s.controlEffect w).pending = s.pending := by
  unfold State.controlEffect
  dsimp only
  split
  · simp
  · split
    · simp
    · split
      · simp
      · split
        · split <;> simp
        · rfl

@[simp] theorem State.deviceControl_pending (w : Word32) : (s.deviceControl w).pending = s.pending := by
  unfold State.deviceControl
  split
  · simp
  · split <;> simp

/-! ### Responses and the part's own events -/

@[simp] theorem State.writeDone_pending (r : Req) : (s.writeDone r).pending = s.pending := by
  unfold State.writeDone
  split
  · split <;> simp
  · split <;> simp
  · rfl

@[simp] theorem State.answered_pending (r : Req) (resp : Response) : (s.answered r resp).pending = s.pending := by
  unfold State.answered
  split <;> simp

@[simp] theorem State.lostWriteBack_pending (r : Req) : (s.lostWriteBack r).pending = s.pending := by
  simp [State.lostWriteBack]

@[simp] theorem State.prefetchFailed_pending (r : Req) (reason : FailReason) :
    (s.prefetchFailed r reason).pending = s.pending := by
  simp [State.prefetchFailed]

@[simp] theorem State.bypassFailed_pending (c : Chan) (beat : Nat) (lanes : List (Nat × Nat)) (reason : FailReason) :
    (s.bypassFailed c beat lanes reason).pending = s.pending := by
  simp [State.bypassFailed]

@[simp] theorem State.enterFatal_pending : s.enterFatal.pending = s.pending := by
  rw [State.enterFatal, State.forChans_pending fun _ _ => State.modCh_pending ..]

@[simp] theorem State.readFailed_pending (r : Req) (reason : FailReason) :
    (s.readFailed r reason).pending = s.pending := by
  unfold State.readFailed
  split
  · rfl
  · dsimp only
    split <;> simp

@[simp] theorem State.writeFailed_pending (r : Req) (reason : FailReason) :
    (s.writeFailed r reason).pending = s.pending := by
  unfold State.writeFailed
  split
  · rfl
  · split <;> simp

@[simp] theorem State.failed_pending (r : Req) (reason : FailReason) : (s.failed r reason).pending = s.pending := by
  unfold State.failed
  split
  case h_1 => split <;> simp
  case h_2 => split <;> simp
  case h_3 => split <;> simp
  all_goals simp

@[simp] theorem State.outcome_pending (r : Req) (resp : Response) : (s.outcome r resp).pending = s.pending := by
  unfold State.outcome
  split <;> simp

@[simp] theorem State.receive_pending (t : TagId) (gen : Bool) (resp : Response) :
    (s.receive t gen resp).pending = s.pending := by
  unfold State.receive
  split <;> simp

@[simp] theorem State.expire_pending (t : TagId) : (s.expire t).pending = s.pending := by
  unfold State.expire
  dsimp only
  split
  · split <;> simp
  · rfl

@[simp] theorem State.probe_pending (address : Word64) (invalidate : Bool) :
    (s.probe address invalidate).pending = s.pending := by
  unfold State.probe
  dsimp only
  split
  · rfl
  · split
    · rfl
    · split
      · rfl
      · split
        · rfl
        · split <;> rfl

@[simp] theorem State.writeEvent_pending : s.writeEvent.pending = s.pending := by
  unfold State.writeEvent
  dsimp only
  split <;> simp

/-! ### Writes to registers -/

@[simp] theorem State.writeEventSize_pending (v : Word32) : (s.writeEventSize v).pending = s.pending := by
  unfold State.writeEventSize
  split
  · rfl
  · dsimp only
    split <;> simp

@[simp] theorem State.writeEventBase_pending (half : Half) (v : Word32) :
    (s.writeEventBase half v).pending = s.pending := by
  unfold State.writeEventBase
  split <;> rfl

@[simp] theorem State.writeEventHead_pending (v : Word32) : (s.writeEventHead v).pending = s.pending := by
  unfold State.writeEventHead
  split <;> rfl

@[simp] theorem State.writeDeviceStatus_pending (v : Word32) : (s.writeDeviceStatus v).pending = s.pending := rfl

@[simp] theorem State.writeCacheControl_pending (v : Word32) : (s.writeCacheControl v).pending = s.pending := by
  unfold State.writeCacheControl
  split
  · split <;> rfl
  · rfl

@[simp] theorem State.writeCommand_pending (c : Chan) (v : Word32) : (s.writeCommand c v).pending = s.pending := by
  unfold State.writeCommand
  split <;> simp

@[simp] theorem State.writeChan_pending (c : Chan) (r : ChanReg) (v : Word32) :
    (s.writeChan c r v).pending = s.pending := by
  cases r <;> simp [State.writeChan]

@[simp] theorem State.writeReg_pending (r : Reg) (v : Word32) : (s.writeReg r v).pending = s.pending := by
  cases r <;> simp [State.writeReg]

@[simp] theorem State.offer_pending (r : Option Reg) (v : Word32) : (s.offer r v).pending = s.pending := by
  unfold State.offer
  dsimp only
  rw [State.send_pending]
  split
  · rfl
  · split <;> simp

@[simp] theorem State.offerPartial_pending : s.offerPartial.pending = s.pending := rfl

@[simp] theorem State.regWrite_pending (r : Reg) (v : Word32) : (s.regWrite r v).pending = s.pending := by
  simp [State.regWrite]

@[simp] theorem State.regWriteSettle_pending (r : Reg) (v : Word32) : (s.regWriteSettle r v).pending = s.pending := by
  simp [State.regWriteSettle]

@[simp] theorem State.commandWrite_pending (c : Chan) (cmd : ChanCmd) : (s.commandWrite c cmd).pending = s.pending := by
  simp [State.commandWrite]

@[simp] theorem State.arrive_pending (tag : TagId) (gen : Bool) (resp : Response) :
    (s.arrive tag gen resp).pending = s.pending := by
  simp [State.arrive]

/-! ### Every command -/

/-- Settles O2: a command ends with `close` or `settleClose` of a state that the register write, the response or the event
of the part has made, and none of these touches the queue. -/
theorem execLeavesTheQueue : Obligations.ExecLeavesTheQueue := by
  intro i s
  cases i
  case wakeComplete =>
    refine ⟨_, rfl, ?_⟩
    split <;> simp
  case doze =>
    refine ⟨_, rfl, ?_⟩
    split <;> simp
  all_goals exact ⟨_, rfl, by simp⟩

end Sys2Proof.Machine
end

section
/-! PROOF. What the part keeps while it goes on of its own accord: what the host has configured (O13), the bounds of its
lists (O8), and the condition of a channel that is not at work (O12).  One relation between a state and a later one carries
all three, so that each function of the model is taken apart once.  The relation first, then one lemma per function, in the
order of the model. -/
namespace Sys2Proof.Machine

/-! ### The relation -/

/-- What the host configures of a ring (R7, R8). -/
def Ring.setup (r : Ring) : Word64 × Nat × Nat := (r.base, r.size, r.producer)

/-- What the host configures of a channel (R7, R8, R88, R90, R110). -/
def Channel.setup (h : Channel) : Bool × Word64 × Vector Aperture 4 × (Word64 × Nat × Nat) × (Word64 × Nat × Nat) :=
  (h.compact, h.csbAddress, h.apertures, h.normal.setup, h.expedite.setup)

/-- What the host configures outside the channels (R129, R140, R157, R160, R169). -/
def State.setup (s : State) : (Bool × Bool × Nat × ResetCause) × Nat × (Word64 × Nat × Nat) × Bool :=
  ((s.device.quiesce, s.device.irqEnable, s.device.dozeDelay, s.device.cause), s.link.responseTimeout,
    (s.engine.base, s.engine.size, s.engine.head), s.cache.prefetchOn)

/-- What stays of a channel in Error (R109): its state, error cause and fault record. -/
def Channel.condition (h : Channel) : ChState × ErrCause × FaultRec := (h.state, h.cause, h.fault)

/-- The lists of a channel stay within their bounds (R23, R163). -/
structure Channel.StaysBounded (h k : Channel) : Prop where
  links : h.links.length ≤ Config.linkEntries → k.links.length ≤ Config.linkEntries
  deferred : h.deferred.length ≤ Config.deferredCommands → k.deferred.length ≤ Config.deferredCommands

/-- The lists of a channel keep their bounds, and, where `p` asks for it, it keeps its condition. -/
structure Channel.Steady (p : Prop) (h k : Channel) : Prop where
  bounded : h.StaysBounded k
  condition : p → k.condition = h.condition

/-- A channel keeps what the host has configured of it, its lists their bounds, and, where `p` asks for it, its
condition. -/
structure Channel.Settles (p : Prop) (h k : Channel) : Prop extends Channel.Steady p h k where
  setup : k.setup = h.setup

/-- From `s` to `t` every list stays within its bound, and the channels of `P` keep their condition. -/
structure State.Steady (P : Chan → Prop) (s t : State) : Prop where
  bounded : ∀ d, (s.ch d).StaysBounded (t.ch d)
  evict : s.EvictBounded → t.EvictBounded
  condition : ∀ d, P d → (t.ch d).condition = (s.ch d).condition

/-- From `s` to `t` moreover everything that the host has configured stays. -/
structure State.Settles (P : Chan → Prop) (s t : State) : Prop extends State.Steady P s t where
  setup : t.setup = s.setup
  chans : ∀ d, (t.ch d).setup = (s.ch d).setup

variable {P : Chan → Prop} {s t u : State} {c : Chan}

theorem Channel.StaysBounded.same {h k : Channel} (hl : k.links = h.links) (hd : k.deferred = h.deferred) :
    h.StaysBounded k := ⟨fun b => by rwa [hl], fun b => by rwa [hd]⟩

/-- A change of nothing that a channel has to keep. -/
theorem Channel.Settles.same {p : Prop} {h k : Channel} (hs : k.setup = h.setup) (hl : k.links = h.links)
    (hd : k.deferred = h.deferred) (he : k.condition = h.condition) : h.Settles p k :=
  ⟨⟨.same hl hd, fun _ => he⟩, hs⟩

/-- A change of the condition of a channel at work. -/
theorem Channel.Settles.work {p : Prop} {h k : Channel} (hp : ¬p) (hs : k.setup = h.setup) (hl : k.links = h.links)
    (hd : k.deferred = h.deferred) : h.Settles p k := ⟨⟨.same hl hd, fun e => absurd e hp⟩, hs⟩

theorem Channel.Settles.refl {p : Prop} (h : Channel) : h.Settles p h := .same rfl rfl rfl rfl

theorem Channel.Settles.trans {p : Prop} {h k l : Channel} (a : h.Settles p k) (b : k.Settles p l) : h.Settles p l where
  bounded := ⟨b.bounded.links ∘ a.bounded.links, b.bounded.deferred ∘ a.bounded.deferred⟩
  condition e := (b.condition e).trans (a.condition e)
  setup := b.setup.trans a.setup

theorem State.Steady.refl (s : State) : s.Steady P s := ⟨fun _ => .same rfl rfl, id, fun _ _ => rfl⟩

theorem State.Steady.trans (h : s.Steady P t) (k : t.Steady P u) : s.Steady P u where
  bounded d := ⟨(k.bounded d).links ∘ (h.bounded d).links, (k.bounded d).deferred ∘ (h.bounded d).deferred⟩
  evict := k.evict ∘ h.evict
  condition d hd := (k.condition d hd).trans (h.condition d hd)

/-- Two changes in turn, the later one given first. -/
theorem State.Steady.after (k : t.Steady P u) (h : s.Steady P t) : s.Steady P u := h.trans k

theorem State.Settles.refl (s : State) : s.Settles P s := ⟨.refl s, rfl, fun _ => rfl⟩

theorem State.Settles.trans (h : s.Settles P t) (k : t.Settles P u) : s.Settles P u where
  toSteady := h.toSteady.trans k.toSteady
  setup := k.setup.trans h.setup
  chans d := (k.chans d).trans (h.chans d)

/-- Two changes in turn, the later one given first. -/
theorem State.Settles.after (k : t.Settles P u) (h : s.Settles P t) : s.Settles P u := h.trans k

/-- A change of neither the channels nor the eviction buffer. -/
theorem State.Steady.of_same (hc : t.chans = s.chans) (he : t.cache.evict = s.cache.evict) : s.Steady P t where
  bounded d := by rw [State.ch_congr hc]; exact .same rfl rfl
  evict h := by unfold State.EvictBounded; rwa [he]
  condition d _ := by rw [State.ch_congr hc]

/-- A change of neither the channels nor the settings nor the eviction buffer. -/
theorem State.Settles.of_same (hc : t.chans = s.chans) (hs : t.setup = s.setup) (he : t.cache.evict = s.cache.evict) :
    s.Settles P t := ⟨.of_same hc he, hs, fun d => by rw [State.ch_congr hc]⟩

/-- A change of one channel that its lists allow. -/
theorem State.Steady.setCh {c : Chan} {x : Channel} (h : (s.ch c).Steady (P c) x) : s.Steady P (s.setCh c x) where
  bounded d := by
    rw [State.ch_setCh]
    split
    · next e => subst e; exact h.bounded
    · exact .same rfl rfl
  evict := id
  condition d hd := by
    rw [State.ch_setCh]
    split
    · next e => subst e; exact h.condition hd
    · rfl

/-- A change of one channel by a function. -/
theorem State.Steady.modCh {c : Chan} {f : Channel → Channel} (hf : ∀ h : Channel, h.Steady (P c) (f h)) :
    s.Steady P (s.modCh c f) := .setCh (hf _)

/-- A change of one channel that leaves what the host has configured of it. -/
theorem State.Settles.setCh {c : Chan} {x : Channel} (h : (s.ch c).Settles (P c) x) : s.Settles P (s.setCh c x) where
  toSteady := .setCh h.toSteady
  setup := rfl
  chans d := by
    rw [State.ch_setCh]
    split
    · next e => subst e; exact h.setup
    · rfl

/-- A change of one channel by a function. -/
theorem State.Settles.modCh {c : Chan} {f : Channel → Channel} (hf : ∀ h : Channel, h.Settles (P c) (f h)) :
    s.Settles P (s.modCh c f) := .setCh (hf _)

/-- A change of the cache that keeps the eviction buffer and the prefetch setting. -/
theorem State.Settles.modCache {f : Cache → Cache} (hp : (f s.cache).prefetchOn = s.cache.prefetchOn)
    (he : (f s.cache).evict = s.cache.evict) : s.Settles P (s.modCache f) :=
  .of_same rfl (by simp [State.setup, State.modCache, hp]) he

/-- Changes made in turn. -/
theorem foldl_settles {α : Type} {g : State → α → State} (hg : ∀ (s : State) a, s.Settles P (g s a)) :
    ∀ (xs : List α) (s : State), s.Settles P (xs.foldl g s)
  | [], s => .refl s
  | x :: xs, s => (hg s x).trans (foldl_settles hg xs _)

/-- Changes made in turn, that keep only the bounds and conditions. -/
theorem foldl_steady {α : Type} {g : State → α → State} (hg : ∀ (s : State) a, s.Steady P (g s a)) :
    ∀ (xs : List α) (s : State), s.Steady P (xs.foldl g s)
  | [], s => .refl s
  | x :: xs, s => (hg s x).trans (foldl_steady hg xs _)

/-- Changes tried in turn. -/
theorem tryEach_settles {α : Type} {f : State → α → Option State} (hf : ∀ (s : State) a, ∀ t ∈ f s a, s.Settles P t)
    (xs : List α) (s : State) : ∀ t ∈ tryEach f s xs, s.Settles P t := by
  have key : ∀ (xs : List α) (acc : State × Bool), s.Settles P acc.1 →
      s.Settles P (xs.foldl (fun (acc : State × Bool) x =>
        match f acc.1 x with
        | some s => (s, true)
        | none => acc) acc).1 := by
    intro xs
    induction xs with
    | nil => exact fun _ h => h
    | cons x xs ih =>
      intro acc h
      rw [List.foldl_cons]
      refine ih _ ?_
      split
      · next u hu => exact h.trans (hf acc.1 x u hu)
      · exact h
  intro t ht
  unfold tryEach at ht
  dsimp only at ht
  split at ht
  · rw [← Option.some.inj ht]
    exact key xs (s, false) (.refl s)
  · cases ht

theorem State.forChans_settles {f : Chan → State → State} (hf : ∀ c (s : State), s.Settles P (f c s)) : s.Settles P (s.forChans f) :=
  foldl_settles (fun s c => hf c s) _ _

/-- What is made of a value, if there is one. -/
theorem map_settles {α : Type} {f : α → State} (hf : ∀ a, s.Settles P (f a)) (o : Option α) :
    ∀ t ∈ o.map f, s.Settles P t := by
  intro t ht
  obtain ⟨a, -, rfl⟩ := Option.mem_map.1 ht
  exact hf a

/-! ### The cache, the link and the requests -/

@[simp] theorem Cache.modLine_evict (k : Cache) (n : Nat) (f : CacheLine → CacheLine) :
    (k.modLine n f).evict = k.evict := by rw [Cache.modLine_rest]
@[simp] theorem Cache.modLine_prefetchOn (k : Cache) (n : Nat) (f : CacheLine → CacheLine) :
    (k.modLine n f).prefetchOn = k.prefetchOn := by rw [Cache.modLine_rest]

theorem State.modLine_settles (n : Nat) (f : CacheLine → CacheLine) :
    s.Settles P (s.modCache fun k => k.modLine n f) := .modCache (by simp) (by simp)

theorem State.ask_settles (r : Req) : s.Settles P (s.ask r) := .of_same rfl rfl rfl
theorem State.note_settles (x : PlaceItem) : s.Settles P (s.note x) := .of_same rfl rfl rfl
theorem State.post_settles (v : Event) : s.Settles P (s.post v) := .of_same rfl rfl rfl
theorem State.modBeat_settles (f : Beat → Beat) : s.Settles P (s.modBeat f) := .of_same rfl rfl rfl
theorem State.issue_settles (t : TagId) (r : Req) : s.Settles P (s.issue t r) := .of_same rfl rfl rfl

/-- What the withdrawal of requests does to the cache: a fill that is not issued leaves no marker. -/
def Cache.unmarkFill (k : Cache) (r : Req) : Cache :=
  match r.kind with
  | .fetchShared | .fetchOwned => k.modLine (r.address / 64) fun l => { l with fill := false }
  | .upgrade | .writeLine | .readDirect | .writePartial => k

/-- The withdrawal of requests, its change of the cache named. -/
theorem State.withdraw_eq (s : State) (p : Req → Bool) : s.withdraw p =
    { s with
      cache := (s.link.waiting.filter p).foldl Cache.unmarkFill s.cache
      link := { s.link with waiting := s.link.waiting.filter fun r => !p r } } := rfl

theorem Cache.unmarkFill_rest (k : Cache) (r : Req) : k.unmarkFill r = { k with sets := (k.unmarkFill r).sets } := by
  unfold Cache.unmarkFill
  split
  · exact Cache.modLine_rest ..
  · exact Cache.modLine_rest ..
  all_goals rfl

theorem State.withdraw_settles (p : Req → Bool) : s.Settles P (s.withdraw p) := by
  have hp : ((s.link.waiting.filter p).foldl Cache.unmarkFill s.cache).prefetchOn = s.cache.prefetchOn :=
    foldl_keeps (p := Cache.prefetchOn) (fun k r => by rw [Cache.unmarkFill_rest]) _ _
  have he : ((s.link.waiting.filter p).foldl Cache.unmarkFill s.cache).evict = s.cache.evict :=
    foldl_keeps (p := Cache.evict) (fun k r => by rw [Cache.unmarkFill_rest]) _ _
  rw [State.withdraw_eq]
  exact .of_same rfl (by simp [State.setup, hp]) he

theorem State.dropClean_settles (n : Nat) : s.Settles P (s.dropClean n) := State.modLine_settles ..
theorem State.markUpgrade_settles (n : Nat) : s.Settles P (s.markUpgrade n) := State.modLine_settles ..

/-- A line moves into the eviction buffer: the settings stay, and the buffer grows by one entry. -/
theorem State.evictLine_evict (n : Nat) (bytes : Line) (sweep : Option Nat) :
    (s.evictLine n bytes sweep).cache.evict = s.cache.evict ++ [{ line := n, bytes := bytes, sweep := sweep }] := rfl

/-- A line moves into an eviction buffer that has room for it (R143). -/
theorem State.Settles.evictLine (h : s.Settles P t) (hr : s.EvictBounded → t.cache.evict.length < Config.evictEntries)
    (n : Nat) (bytes : Line) (sweep : Option Nat) : s.Settles P (t.evictLine n bytes sweep) where
  bounded := h.bounded
  evict hs := by
    have := hr hs
    unfold State.EvictBounded
    rw [State.evictLine_evict, List.length_append]
    exact this
  condition := h.condition
  setup := h.setup
  chans := h.chans

theorem State.deliverRead_settles (r : Req) (bytes : Line) : s.Settles P (s.deliverRead r bytes) := by
  unfold State.deliverRead
  split
  · exact .refl s
  · split
    · exact State.modBeat_settles _
    · refine .modCh fun h => ?_
      split <;> exact .same rfl rfl rfl rfl
    · exact .modCh fun h => .same rfl rfl rfl rfl
    · exact .refl s

theorem Channel.recordIssued_settles {p : Prop} (h : Channel) : h.Settles p h.recordIssued := by
  unfold Channel.recordIssued
  split
  · exact .same rfl rfl rfl rfl
  · exact .refl h

theorem Channel.taken_settles {p : Prop} (h : Channel) : h.Settles p h.taken := by
  unfold Channel.taken
  split
  · refine .same ?_ rfl rfl rfl
    simp only [Channel.setup]
    congr 4 <;> split <;> rfl
  · exact .refl h

theorem State.issueRecord_settles (t : TagId) (c : Chan) (r : Req) : s.Settles P (s.issueRecord t c r) := by
  have hs : s.Settles P ((if r.orphan then s else s.modCh c Channel.recordIssued).issue t
      (if r.orphan then r else (s.ch c).withRecord c r)) := by
    refine .trans ?_ (State.issue_settles ..)
    split
    · exact .refl s
    · exact .modCh Channel.recordIssued_settles
  unfold State.issueRecord
  dsimp only
  split
  · exact hs.trans (State.note_settles _)
  · exact hs

theorem State.issueEvent_settles (t : TagId) (r : Req) : s.Settles P (s.issueEvent t r) := by
  unfold State.issueEvent
  split
  · exact State.issue_settles ..
  · split
    · exact .refl s
    · exact (State.issue_settles ..).trans (State.note_settles _)

theorem State.takeFor_settles (r : Req) : s.Settles P (s.takeFor r) := by
  unfold State.takeFor
  split
  · split
    · exact .refl s
    · exact .modCh Channel.taken_settles
  · exact .refl s

theorem State.issueByClass_settles (t : TagId) (r : Req) : s.Settles P (s.issueByClass t r) := by
  unfold State.issueByClass
  extract_lets s₁ s₂
  have h₁ : s.Settles P s₁ := by
    dsimp only [s₁]
    split
    · exact State.dropClean_settles _
    · exact .refl s
  have h₂ : s.Settles P s₂ := by
    dsimp only [s₂]
    split
    · exact h₁.trans (State.markUpgrade_settles _)
    · exact h₁
  split
  · exact h₂.trans (State.issueRecord_settles ..)
  · exact h₂.trans (State.issueEvent_settles ..)
  · exact h₂.trans ((State.takeFor_settles r).trans (State.issue_settles ..))

/-- A request for which something can be done is one of those that wait. -/
theorem pickWaiting_some {α : Type} {f : List Req → Req → Option α} {x : α × Req × List Req} :
    ∀ {rest before : List Req}, pickWaiting f before rest = some x → ∃ earlier, f earlier x.2.1 = some x.1
  | [], _, h => by cases h
  | r :: rest, before, h => by
    unfold pickWaiting at h
    split at h
    · next a ha =>
      cases h
      exact ⟨before, ha⟩
    · exact pickWaiting_some h

/-- A Dirty line is moved for a record write only where the eviction buffer has room (R143). -/
theorem State.service_moveDirty {earlier : List Req} {r : Req} {l : CacheLine}
    (h : s.service earlier r = some (.moveDirty l)) : s.cache.room 1 = true := by
  unfold State.service at h
  extract_lets n free tag at h
  have htag : tag ≠ some (.moveDirty l) := by
    dsimp only [tag]
    split
    · cases s.link.freeTag r.purpose.usesData <;> simp
    · simp
  split at h
  · cases h
  · split at h
    · split at h
      · cases h
      · split at h
        · cases h
        · exact absurd h htag
    · split at h
      · cases h
      · split at h
        · split at h
          · cases h
          · split at h
            · split at h
              · split at h
                · next hr =>
                  simp only [Bool.and_eq_true] at hr
                  exact hr.2
                · cases h
              · exact absurd h htag
            · exact absurd h htag
        · exact absurd h htag

/-- Room for one more entry in the eviction buffer. -/
theorem Cache.room_iff (k : Cache) (n : Nat) : k.room n = true ↔ k.evict.length + n ≤ Config.evictEntries := by
  simp [Cache.room]

theorem State.serve_settles : ∀ t ∈ s.serve, s.Settles P t := by
  intro t ht
  unfold State.serve at ht
  split at ht
  · cases ht
  · next what r others hw =>
    have hlink : s.Settles P { s with link := { s.link with waiting := others } } := .of_same rfl rfl rfl
    split at ht <;> obtain rfl := Option.some.inj ht
    · exact hlink.trans (State.issueByClass_settles ..)
    · exact (hlink.trans (State.takeFor_settles r)).trans (State.deliverRead_settles ..)
    · next l =>
      obtain ⟨earlier, he⟩ := pickWaiting_some hw
      have hr := (Cache.room_iff ..).1 (State.service_moveDirty he)
      exact .evictLine (State.modLine_settles ..) (fun _ => by simpa using hr) ..

/-! ### The cache at work for a beat -/

/-- What a Dirty line of a way adds to the eviction buffer. -/
theorem State.evictIfDirty_settles (h : s.Settles P t) (i : SetId) (w : CacheWay) (upper : Bool)
    (hr : (w.line upper).state = .dirty → s.EvictBounded → t.cache.evict.length < Config.evictEntries) (sweep : Option Nat) :
    s.Settles P (t.evictIfDirty i w upper sweep) := by
  unfold State.evictIfDirty
  dsimp only
  split
  · next hd => exact h.evictLine (hr (by simpa using hd)) ..
  · exact h

theorem State.evictIfDirty_length (i : SetId) (w : CacheWay) (upper : Bool) (sweep : Option Nat) :
    (s.evictIfDirty i w upper sweep).cache.evict.length =
      s.cache.evict.length + ((w.line upper).state == .dirty).toNat := by
  unfold State.evictIfDirty
  dsimp only
  split
  · next hd => rw [State.evictLine_evict, List.length_append, hd]; rfl
  · next hd => simp [hd]

/-- A victim makes room for itself: its Dirty lines move only where the eviction buffer takes them (R139). -/
theorem State.takeWay_settles (n : Nat) : ∀ t ∈ s.takeWay n, s.Settles P t := by
  intro t ht
  unfold State.takeWay at ht
  dsimp only at ht
  split at ht
  · cases ht
  · next w hw =>
    split at ht
    · cases ht
    · next hroom =>
      obtain rfl := Option.some.inj ht
      rw [Bool.not_eq_true', Bool.not_eq_false, Cache.room_iff] at hroom
      generalize (s.cache.set (lineSet n)).way w = y at hroom ⊢
      simp only [CacheWay.dirtyLines] at hroom
      have hlow : s.Settles P (s.evictIfDirty (lineSet n) y false none) :=
        State.evictIfDirty_settles (.refl s) _ _ _ (fun hd _ => by
          simp only [CacheWay.line, Bool.false_eq_true, if_false] at hd
          simp only [hd, beq_self_eq_true, Bool.toNat_true] at hroom
          omega) _
      refine (State.evictIfDirty_settles hlow _ _ _ (fun hd _ => ?_) _).trans (.modCache rfl rfl)
      rw [State.evictIfDirty_length]
      simp only [CacheWay.line, Bool.false_eq_true, if_false, if_true] at hd ⊢
      simp only [hd, beq_self_eq_true, Bool.toNat_true] at hroom
      omega

/-- What is done with a way that has been taken. -/
theorem State.takeWay_map_settles (n : Nat) {f : State → State} (hf : ∀ u : State, u.Settles P (f u)) :
    ∀ t ∈ (s.takeWay n).map f, s.Settles P t := by
  intro t ht
  obtain ⟨u, hu, rfl⟩ := Option.mem_map.1 ht
  exact (s.takeWay_settles n u hu).trans (hf u)

theorem State.touchOnce_settles (i : SetId) (w : WayId) : s.Settles P (s.touchOnce i w) := by
  unfold State.touchOnce
  split
  · split
    · exact .refl s
    · exact .of_same rfl rfl rfl
  · exact .refl s

theorem State.noteTouched_settles (n : Nat) : s.Settles P (s.noteTouched n) := by
  unfold State.noteTouched
  split
  · exact State.modBeat_settles _
  · exact .refl s

theorem State.askFill_settles (c : Chan) (n : Nat) (kind : ReqKind) (purpose : Purpose) :
    s.Settles P (s.askFill c n kind purpose) := (State.modLine_settles ..).trans (State.ask_settles _)

theorem State.setAccess_settles (i : Nat) (x : AccessState) : s.Settles P (s.setAccess i x) := State.modBeat_settles _
theorem State.setAcq_settles (n : Nat) (x : AcqState) : s.Settles P (s.setAcq n x) := State.modBeat_settles _
theorem State.pin_settles (n : Nat) : s.Settles P (s.pin n) := State.modLine_settles ..
theorem State.dropUpgrade_settles (n : Nat) : s.Settles P (s.dropUpgrade n) := State.withdraw_settles _

theorem State.releasePins_settles (b : Beat) : s.Settles P (s.releasePins b) :=
  .modCache (foldl_keeps (p := Cache.prefetchOn) (fun k q => by simp) _ _)
    (foldl_keeps (p := Cache.evict) (fun k q => by simp) _ _)

theorem State.readCached_settles (c : Chan) (i : Nat) (a : Access) : ∀ t ∈ s.readCached c i a, s.Settles P t := by
  intro t ht
  unfold State.readCached at ht
  dsimp only at ht
  split at ht
  · split at ht
    · obtain rfl := Option.some.inj ht
      exact (State.touchOnce_settles ..).trans (State.setAccess_settles ..)
    · split at ht
      · obtain rfl := Option.some.inj ht
        exact State.setAccess_settles ..
      · split at ht
        · cases ht
        · obtain rfl := Option.some.inj ht
          exact (State.askFill_settles ..).trans (State.setAccess_settles ..)
  · refine State.takeWay_map_settles _ (fun u => ?_) t ht
    exact ((State.noteTouched_settles _).trans (State.askFill_settles ..)).trans (State.setAccess_settles ..)

theorem State.readDirect_settles (c : Chan) (i : Nat) (a : Access) : s.Settles P (s.readDirect c i a) := by
  unfold State.readDirect
  extract_lets n mark ask
  have hask : s.Settles P (ask s) := by
    dsimp only [ask]
    split
    · exact .refl s
    · exact (State.modBeat_settles _).trans (State.ask_settles _)
  split
  · split
    · exact State.setAccess_settles ..
    · exact hask
  · exact hask

theorem State.readOne_settles (c : Chan) (i : Nat) : ∀ t ∈ s.readOne c i, s.Settles P t := by
  intro t ht
  unfold State.readOne at ht
  split at ht
  · cases ht
  · split at ht
    · cases ht
    · split at ht
      · exact s.readCached_settles c i _ t ht
      · obtain rfl := Option.some.inj ht
        exact State.readDirect_settles ..

theorem State.readPass_settles (c : Chan) : ∀ t ∈ s.readPass c, s.Settles P t := by
  unfold State.readPass
  split
  · simp
  · exact tryEach_settles (fun s i => s.readOne_settles c i) _ _

theorem State.acquireOne_settles (c : Chan) (q : Acq) : ∀ t ∈ s.acquireOne c q, s.Settles P t := by
  unfold State.acquireOne
  extract_lets n waits x
  split
  · simp
  · split
    · extract_lets l pinned s'
      have hp : ∀ t ∈ pinned, s.Settles P t := by
        dsimp only [pinned]
        split
        · simp
        · rintro t ⟨⟩
          split
          · exact State.pin_settles _
          · exact (State.touchOnce_settles ..).trans (State.pin_settles _)
      have hs' : s.Settles P s' := by
        dsimp only [s']
        cases h : pinned with
        | none => exact .refl s
        | some t => exact hp t h
      split
      · exact hp
      · split
        · split
          · exact hp
          · rintro t ⟨⟩
            exact (hs'.trans (State.setAcq_settles ..)).trans (State.ask_settles _)
        · rintro t ⟨⟩
          split
          · exact ((hs'.trans (State.dropUpgrade_settles _)).trans (State.setAcq_settles ..)).trans
              (State.askFill_settles ..)
          · exact (hs'.trans (State.setAcq_settles ..)).trans (State.askFill_settles ..)
    · split
      · rintro t ⟨⟩
        exact State.setAcq_settles ..
      · refine State.takeWay_map_settles _ fun u => ?_
        exact (((State.noteTouched_settles _).trans (State.pin_settles _)).trans (State.setAcq_settles ..)).trans
          (State.askFill_settles ..)

theorem State.acquirePass_settles (c : Chan) : ∀ t ∈ s.acquirePass c, s.Settles P t := by
  unfold State.acquirePass
  split
  · simp
  · refine tryEach_settles (fun s q => ?_) _ _
    split
    · exact s.acquireOne_settles c _
    · simp

/-! ### The channel sequencer -/

theorem State.orphan_settles (p : Req → Bool) : s.Settles P (s.orphan p) := by
  unfold State.orphan
  refine .of_same rfl ?_ rfl
  simp only [State.setup, (s.link.mapOutstanding_rest _).2.1]

theorem State.giveUp_settles (p : Req → Bool) : s.Settles P (s.giveUp p) :=
  (State.withdraw_settles p).trans (State.orphan_settles p)

theorem State.noBeat_settles : s.Settles P { s with beat := none } := .of_same rfl rfl rfl

theorem State.releaseGrant_settles (c : Chan) : s.Settles P (s.releaseGrant c) := by
  unfold State.releaseGrant
  split
  · split
    · exact (State.releasePins_settles _).trans State.noBeat_settles
    · exact .refl s
  · exact .refl s

theorem State.discardBeat_settles (c : Chan) : s.Settles P (s.discardBeat c) := by
  unfold State.discardBeat
  split
  · split
    · exact (State.releaseGrant_settles c).trans (State.giveUp_settles _)
    · exact .refl s
  · exact .refl s

theorem State.enterFaulted_settles (hc : ¬P c) (f : FaultRec) : s.Settles P (s.enterFaulted c f) :=
  .after (State.post_settles _) (.after (.modCh fun _ => .work hc rfl rfl rfl) (State.discardBeat_settles c))

theorem State.raiseBeatFault_settles (c : Chan) (f : FaultRec) : s.Settles P (s.raiseBeatFault c f) :=
  .after (.modCh fun _ => .same rfl rfl rfl rfl) (State.releaseGrant_settles c)

theorem State.settleFault_settles (hc : ¬P c) : ∀ t ∈ s.settleFault c (s.ch c), s.Settles P t := by
  unfold State.settleFault
  split
  · simp
  · split
    · split
      · rintro t ⟨⟩
        exact .after (State.enterFaulted_settles hc _) (.setCh (.work hc rfl rfl rfl))
      · exact map_settles (fun f => State.enterFaulted_settles hc f) _
    · simp

/-- Entry into Error changes only the channel, and nothing of one that is in Error (R109). -/
theorem State.enterError_settles (hc : P c → (s.ch c).state = .error) (cause : ErrCause) (kind : EventKind)
    (detail : Word64) : s.Settles P (s.enterError c cause kind detail) := by
  unfold State.enterError
  split
  · exact .refl s
  · next he =>
    have hn : ¬P c := fun h => he (by simp [hc h])
    exact .after (State.post_settles _) (.after (.modCh fun _ => .work hn rfl rfl rfl)
      (.after (State.giveUp_settles _) (State.discardBeat_settles c)))

theorem Channel.advance_settles {p : Prop} (h : Channel) (x : Current) : h.Settles p (h.advance x) := by
  unfold Channel.advance
  split <;> exact .same rfl rfl rfl rfl

theorem Channel.leave_settles {p : Prop} (h : Channel) : h.Settles p h.leave := .same rfl rfl rfl rfl

theorem Channel.finish_settles {p : Prop} (h : Channel) : h.Settles p h.finish := by
  unfold Channel.finish
  split
  · exact (h.advance_settles _).trans (Channel.leave_settles _)
  · exact h.leave_settles

theorem State.complete_settles (c : Chan) (status : Status) : s.Settles P (s.complete c status) := by
  unfold State.complete
  dsimp only
  split
  · exact .refl s
  · split
    · split
      · exact .after (State.post_settles _) (.modCh Channel.finish_settles)
      · exact .modCh Channel.finish_settles
    · exact .after (State.ask_settles _) (.modCh fun _ => .same rfl rfl rfl rfl)

theorem State.fetchHalf_settles (c : Chan) (address : Nat) (upper : Bool) :
    s.Settles P (s.fetchHalf c address upper) := by
  unfold State.fetchHalf
  dsimp only
  split
  · split
    · exact (State.takeFor_settles _).trans (State.deliverRead_settles ..)
    · exact State.ask_settles _
  · exact State.ask_settles _

theorem State.fetchHalves_settles (c : Chan) (ring : RingId) (location : Word64) :
    s.Settles P (s.fetchHalves c ring location) := (State.fetchHalf_settles ..).trans (State.fetchHalf_settles ..)

theorem State.startFetch_settles (c : Chan) (ring : RingId) (location : Word64) :
    s.Settles P (s.startFetch c ring location) :=
  .after (State.fetchHalves_settles ..) (.modCh fun _ => .same rfl rfl rfl rfl)

theorem State.startTaking_settles (c : Chan) (ring : RingId) (location : Word64) :
    s.Settles P (s.startTaking c ring location) :=
  .after (State.fetchHalves_settles ..) (.modCh fun _ => .same rfl rfl rfl rfl)

theorem State.stopTaking_settles (c : Chan) : s.Settles P (s.stopTaking c) := by
  unfold State.stopTaking
  exact .after (.modCh fun _ => .same rfl rfl rfl rfl) (State.withdraw_settles _)

theorem State.fetched_settles (hc : ¬P c) (lo hi : FetchHalf) : s.Settles P (s.fetched c lo hi) := by
  unfold State.fetched
  dsimp only
  split
  · exact State.enterFaulted_settles hc _
  · exact State.enterFaulted_settles hc _
  · split
    · exact .modCh fun _ => .same rfl rfl rfl rfl
    · exact .after (State.enterFaulted_settles hc _) (.modCh fun _ => .same rfl rfl rfl rfl)
  · exact .refl s

theorem State.execSetControl_settles (hc : ¬P c) (h : Channel) (x : Current) :
    s.Settles P (s.execSetControl c h x) := by
  unfold State.execSetControl
  dsimp only
  split
  · exact .after (State.complete_settles ..) (.modCh fun _ => .same rfl rfl rfl rfl)
  · exact State.enterFaulted_settles hc _

theorem State.execFence_settles (hc : ¬P c) : s.Settles P (s.execFence c) := by
  unfold State.execFence
  split
  · exact .modCh fun _ => .work hc rfl rfl rfl
  · exact State.complete_settles ..

theorem State.execFlush_settles (c : Chan) : s.Settles P (s.execFlush c) :=
  .after (.modCache rfl rfl) (.modCh fun _ => .same rfl rfl rfl rfl)

/-- A CALL pushes where the link stack has room (R23, R24). -/
theorem State.execCall_settles (hc : ¬P c) (x : Current) : s.Settles P (s.execCall c (s.ch c) x) := by
  unfold State.execCall
  split
  · exact State.enterFaulted_settles hc _
  · next hroom =>
    refine .setCh ⟨⟨⟨fun _ => ?_, id⟩, fun h => absurd h hc⟩, rfl⟩
    exact Nat.lt_of_not_le hroom

/-- A RETURN pops (R25). -/
theorem State.execReturn_settles (hc : ¬P c) : s.Settles P (s.execReturn c (s.ch c)) := by
  unfold State.execReturn
  split
  · exact State.enterFaulted_settles hc _
  · next e rest hl =>
    have hrest : rest.length ≤ (s.ch c).links.length := by rw [hl]; exact Nat.le_succ _
    refine .setCh ?_
    dsimp only
    split <;> exact ⟨⟨⟨hrest.trans, id⟩, fun h => absurd h hc⟩, rfl⟩

theorem State.execute_settles (hc : ¬P c) (x : Current) : s.Settles P (s.execute c (s.ch c) x) := by
  unfold State.execute
  split
  · split
    · exact .after (State.complete_settles ..) (.modCh fun _ => .same rfl rfl rfl rfl)
    · exact .modCh fun _ => .same rfl rfl rfl rfl
  · exact State.execSetControl_settles hc _ _
  · exact State.execFence_settles hc
  · exact State.execFlush_settles c
  · exact State.execCall_settles hc x
  · exact State.execReturn_settles hc
  · exact State.complete_settles ..
  · exact .refl s

theorem State.saveStage_settles (c : Chan) (v : Save) : s.Settles P (s.saveStage c v) :=
  .after (foldl_settles (fun _ r => State.ask_settles r) _ _) (.modCh fun _ => .same rfl rfl rfl rfl)

theorem State.beginSave_settles (hc : ¬P c) (origin : Origin) : s.Settles P (s.beginSave c origin) :=
  .after (State.saveStage_settles ..) (.modCh fun _ => .work hc rfl rfl rfl)

theorem State.saveDone_settles (hc : ¬P c) (v : Save) : s.Settles P (s.saveDone c v) := by
  unfold State.saveDone
  split
  · exact .after (State.post_settles _) (.modCh fun _ => .work hc rfl rfl rfl)
  · exact .modCh fun _ => .work hc rfl rfl rfl

theorem State.saveStep_settles (hc : ¬P c) (h : Channel) : ∀ t ∈ s.saveStep c h, s.Settles P t := by
  unfold State.saveStep
  split
  · simp
  · split
    · simp
    · split <;> rintro t ⟨⟩
      · exact State.saveStage_settles ..
      · exact State.saveDone_settles hc _

theorem State.beginRestore_settles (hc : ¬P c) (byUnpark : Bool) : s.Settles P (s.beginRestore c byUnpark) :=
  .after (foldl_settles (fun _ _ => State.ask_settles _) _ _) (.modCh fun _ => .work hc rfl rfl rfl)

theorem State.applyRestart_settles (hc : ¬P c) (choice : Restart) : s.Settles P (s.applyRestart c choice) := by
  cases choice with
  | continue_ =>
    refine .modCh fun h => ?_
    unfold Channel.continued
    extract_lets atOnce
    split <;> exact .same rfl rfl rfl rfl
  | restartJob =>
    dsimp only [State.applyRestart]
    exact .modCh fun _ => .same rfl rfl rfl rfl
  | abandonJob => exact State.complete_settles ..
  | skipWait => exact .after (State.complete_settles ..) (.modCh fun _ => .work hc rfl rfl rfl)

/-- A block names at most four link stack entries (R111). -/
theorem csbLinks_length (b : CsbImage) : (csbLinks b).length ≤ Config.linkEntries := by
  refine (List.length_filterMap_le ..).trans ?_
  rw [List.length_range]
  exact Nat.min_le_right ..

theorem Channel.takeContext_settles {p : Prop} (hp : ¬p) (h : Channel) (b : CsbImage) : h.Settles p (h.takeContext b) :=
  ⟨⟨⟨fun _ => by simpa [Channel.takeContext] using csbLinks_length b, id⟩, fun e => absurd e hp⟩, rfl⟩

theorem Channel.claimAfterRestore_settles {p : Prop} (h : Channel) : h.Settles p h.claimAfterRestore := by
  unfold Channel.claimAfterRestore
  split
  · exact .same rfl rfl rfl rfl
  · split
    · exact .same rfl rfl rfl rfl
    · exact .refl h

theorem State.restoreStep_settles (hc : ¬P c) (h : Channel) : ∀ t ∈ s.restoreStep c h, s.Settles P t := by
  unfold State.restoreStep
  split
  · simp
  · split
    · simp
    · split
      · rintro t ⟨⟩
        exact State.enterError_settles (fun h => absurd h hc) ..
      · extract_lets s₁ s₂ s₃
        have h₁ : s.Settles P s₁ := .modCh fun h => h.takeContext_settles hc _
        have h₂ : s.Settles P s₂ := by
          dsimp only [s₂]
          split
          · exact h₁.trans (State.post_settles _)
          · exact h₁
        rintro t ⟨⟩
        exact .after (.modCh Channel.claimAfterRestore_settles) (h₂.trans (State.applyRestart_settles hc _))

theorem State.expediteEnd_settles (hc : ¬P c) (h : Channel) : s.Settles P (s.expediteEnd c h) := by
  have hidle : s.Settles P (s.modCh c fun h => { h.takeShadow with state := .idle }) :=
    .modCh fun _ => .work hc rfl rfl rfl
  have hend : s.Settles P (if h.pendingPark then (s.modCh c fun h => { h.takeShadow with state := .idle }).beginSave c .explicit
      else s.modCh c fun h => { h.takeShadow with state := .idle }) := by
    split
    · exact hidle.trans (State.beginSave_settles hc _)
    · exact hidle
  unfold State.expediteEnd
  split
  · split
    · exact .after (State.post_settles _) (.modCh fun _ => .work hc rfl rfl rfl)
    · exact State.beginRestore_settles hc _
  · exact hend
  · exact hend
  · exact .modCh fun _ => .work hc rfl rfl rfl

theorem State.applyHold_settles (c : Chan) : ∀ t ∈ s.applyHold c (s.ch c), s.Settles P t := by
  unfold State.applyHold
  dsimp only
  split
  · rintro t ⟨⟩
    exact .setCh (.same rfl rfl rfl rfl)
  · simp

theorem State.endDrain_settles (c : Chan) : ∀ t ∈ s.endDrain c (s.ch c), s.Settles P t := by
  unfold State.endDrain
  split
  · rintro t ⟨⟩
    exact .setCh (.same rfl rfl rfl rfl)
  · simp

theorem State.chooseNext_settles (hc : ¬P c) (h : Channel) : s.Settles P (s.chooseNext c h) := by
  unfold State.chooseNext
  split
  · exact State.startTaking_settles ..
  · split
    · exact State.expediteEnd_settles hc h
    · exact .modCh fun _ => .work hc rfl rfl rfl

theorem State.workStep_settles (hc : ¬P c) : ∀ t ∈ s.workStep c (s.ch c), s.Settles P t := by
  have hpark (o : Origin) : s.Settles P (s.beginSave c o) := State.beginSave_settles hc o
  have hdone (status : Status) : s.Settles P (s.complete c status) := State.complete_settles c status
  intro t ht
  unfold State.workStep at ht
  split at ht
  · next u hu => exact State.settleFault_settles hc t (hu.trans ht)
  · split at ht
    · cases ht
    · cases hp : (s.ch c).phase with
      | choose =>
        simp only [hp] at ht
        split at ht
        · cases ht
        · split at ht <;> obtain rfl := Option.some.inj ht
          · exact hpark _
          · exact State.chooseNext_settles hc _
      | taking =>
        simp only [hp] at ht
        split at ht
        · obtain rfl := Option.some.inj ht
          exact State.stopTaking_settles c
        · cases ht
      | fetching lo hi =>
        simp only [hp] at ht
        split at ht
        · cases ht
        · obtain rfl := Option.some.inj ht
          exact State.fetched_settles hc lo hi
      | ready =>
        simp only [hp] at ht
        split at ht
        · cases ht
        · split at ht
          · obtain rfl := Option.some.inj ht
            exact hpark _
          · exact map_settles (fun x => State.execute_settles hc x) _ t ht
      | job =>
        simp only [hp] at ht
        split at ht
        · cases ht
        · exact map_settles hpark _ t ht
      | ending =>
        simp only [hp] at ht
        split at ht
        · cases ht
        · split at ht
          · obtain rfl := Option.some.inj ht
            exact hpark _
          · exact map_settles (fun x : Current => hdone x.endStatus) _ t ht
      | fence =>
        simp only [hp] at ht
        split at ht
        · cases ht
        · obtain rfl := Option.some.inj ht
          exact hdone _
      | flushing sweep =>
        cases sweep with
        | none => simp only [hp] at ht; cases ht
        | some n =>
          simp only [hp] at ht
          split at ht
          · obtain rfl := Option.some.inj ht
            exact hdone _
          · cases ht
      | completing status issued =>
        simp only [hp] at ht
        split at ht
        · obtain rfl := Option.some.inj ht
          exact .modCh Channel.finish_settles
        · cases ht
      | drained =>
        simp only [hp] at ht
        split at ht
        · cases ht
        · obtain rfl := Option.some.inj ht
          exact .modCh fun _ => .work hc rfl rfl rfl

theorem State.idleStep_settles (hc : ¬P c) : ∀ t ∈ s.idleStep c (s.ch c), s.Settles P t := by
  unfold State.idleStep
  split
  · simp
  · split
    · rintro t ⟨⟩
      exact State.beginSave_settles hc _
    · split
      · rintro t ⟨⟩
        exact .setCh (.work hc rfl rfl rfl)
      · split
        · rintro t ⟨⟩
          exact .setCh (.work hc rfl rfl rfl)
        · simp

theorem State.waitStep_settles (hc : ¬P c) (h : Channel) : ∀ t ∈ s.waitStep c h, s.Settles P t := by
  unfold State.waitStep
  split
  · simp
  · split
    · rintro t ⟨⟩
      exact State.beginSave_settles hc _
    · split
      · rintro t ⟨⟩
        exact .after (State.complete_settles ..) (.modCh fun _ => .work hc rfl rfl rfl)
      · split
        · rintro t ⟨⟩
          exact .modCh fun _ => .same rfl rfl rfl rfl
        · simp

/-- A channel goes on: it keeps what it has to keep, and a channel in Error does nothing but be held or drained. -/
theorem State.chanStep_settles (hc : P c → (s.ch c).state = .error) : ∀ t ∈ s.chanStep c, s.Settles P t := by
  intro t ht
  unfold State.chanStep at ht
  extract_lets h at ht
  split at ht
  · next u hu => exact State.endDrain_settles c t (hu.trans ht)
  · split at ht
    · next u hu => exact State.applyHold_settles c t (hu.trans ht)
    · have hn : h.state ≠ .error → ¬P c := fun he hp => he (hc hp)
      split at ht
      · cases ht
      · cases ht
      · cases ht
      · next he => exact State.idleStep_settles (hn (by simp [he])) t ht
      · next he => exact State.workStep_settles (hn (by simp [he])) t ht
      · next he => exact State.workStep_settles (hn (by simp [he])) t ht
      · next he => exact State.workStep_settles (hn (by simp [he])) t ht
      · next he => exact State.waitStep_settles (hn (by simp [he])) _ t ht
      · next he =>
        split at ht
        · obtain rfl := Option.some.inj ht
          exact .setCh (.work (hn (by simp [he])) rfl rfl rfl)
        · cases ht
      · next he => exact State.saveStep_settles (hn (by simp [he])) _ t ht
      · next he => exact State.restoreStep_settles (hn (by simp [he])) _ t ht

/-! ### The beat -/

theorem State.arbiterChoice_settles : ∀ x ∈ s.arbiterChoice, s.Settles P x.2 := by
  unfold State.arbiterChoice
  split
  · rintro x ⟨⟩
    exact .of_same rfl rfl rfl
  · split
    · rintro x ⟨⟩
      exact .of_same rfl rfl rfl
    · simp

theorem State.startAttempt_settles (c : Chan) (fullMasked : Bool) : s.Settles P (s.startAttempt c fullMasked) := by
  unfold State.startAttempt
  dsimp only
  split
  · exact .refl s
  · split
    · exact .after (State.raiseBeatFault_settles ..) (.of_same rfl rfl rfl)
    · exact .of_same rfl rfl rfl

theorem State.indexDone_settles (b : Beat) (h : Channel) (x : Current) : s.Settles P (s.indexDone b h x) := by
  unfold State.indexDone
  dsimp only
  split
  · exact State.raiseBeatFault_settles ..
  · exact .of_same rfl rfl rfl

theorem State.arithmeticStop_settles (b : Beat) (x : Current) (conds : CondSet) (f : FaultRec) :
    s.Settles P (s.arithmeticStop b x conds f) := by
  have hflags : s.Settles P (s.modCh b.chan fun h => h.addFlags conds) := .modCh fun _ => .same rfl rfl rfl rfl
  unfold State.arithmeticStop
  dsimp only
  split
  · exact .after (State.startAttempt_settles ..) (.after (State.post_settles _)
      (.after (.modCh fun _ => .same rfl rfl rfl rfl) hflags))
  · exact hflags.trans (State.raiseBeatFault_settles ..)

theorem State.compute_settles (b : Beat) (h : Channel) (x : Current) : s.Settles P (s.compute b h x) := by
  unfold State.compute
  extract_lets
  split
  · exact State.arithmeticStop_settles ..
  · split
    · exact State.arithmeticStop_settles ..
    · exact .of_same rfl rfl rfl

theorem State.failStage_settles (c : Chan) (f : FaultRec) : ∀ t ∈ s.failStage c f, s.Settles P t := by
  unfold State.failStage
  dsimp only
  split
  · rintro t ⟨⟩
    exact State.withdraw_settles _
  · split
    · simp
    · rintro t ⟨⟩
      exact State.raiseBeatFault_settles ..

theorem State.writeCached_settles (size : Nat) (l : DestLane) : s.Settles P (s.writeCached size l) := by
  unfold State.writeCached
  dsimp only
  split
  · exact (State.modLine_settles ..).trans (State.touchOnce_settles ..)
  · exact State.modLine_settles ..

theorem State.writeCached_evict (size : Nat) (l : DestLane) : (s.writeCached size l).cache.evict = s.cache.evict := by
  have ht (u : State) (i : SetId) (w : WayId) : (u.touchOnce i w).cache.evict = u.cache.evict := by
    unfold State.touchOnce
    split
    · split <;> rfl
    · rfl
  unfold State.writeCached
  dsimp only
  split <;> simp [ht]

theorem Channel.committed_settles {p : Prop} (h : Channel) (conds : CondSet) : h.Settles p (h.committed conds) :=
  .same rfl rfl rfl rfl

/-! ### The Dirty lines of a commit -/

/-- How many of some lines are Dirty. -/
def Cache.dirtyAmong (k : Cache) (lines : List Nat) : Nat := (lines.filter fun n => k.lineState n == .dirty).length

/-- The state of a line is that of the line found under its tag. -/
theorem Cache.lineState_eq (k : Cache) (n : Nat) : k.lineState n = ((k.line n).map CacheLine.state).getD .invalid := by
  unfold Cache.lineState
  cases k.line n <;> rfl

theorem Cache.lineState_modLine_ne (k : Cache) {n m : Nat} (h : m ≠ n) (f : CacheLine → CacheLine) :
    (k.modLine n f).lineState m = k.lineState m := by
  rw [Cache.lineState_eq, Cache.line_modLine, if_neg h, ← Cache.lineState_eq]

/-- A change that makes no line Dirty. -/
theorem Cache.dirty_of_modLine {k : Cache} {n m : Nat} {f : CacheLine → CacheLine}
    (h : (k.modLine n f).lineState m = .dirty) (hf : ∀ l, (f l).state = .dirty → l.state = .dirty) :
    k.lineState m = .dirty := by
  rw [Cache.lineState_eq, Cache.line_modLine] at h
  rw [Cache.lineState_eq]
  split at h
  · cases hl : k.line m with
    | none => simp [hl] at h
    | some l => exact hf l (by simpa [hl] using h)
  · exact h

/-- The order of use of a set says nothing of its lines. -/
theorem Cache.line_touch (k : Cache) (i : SetId) (w : WayId) (n : Nat) : (k.touch i w).line n = k.line n := by
  have hway : ∀ j v, ((k.touch i w).set j).way v = (k.set j).way v := by
    intro j v
    unfold Cache.touch
    rw [Cache.set_putSet]
    split
    · next h => subst h; rfl
    · rfl
  unfold Cache.line Cache.findWay CacheSet.findWay
  simp only [hway]

theorem State.touchOnce_line (i : SetId) (w : WayId) (n : Nat) : (s.touchOnce i w).cache.line n = s.cache.line n := by
  unfold State.touchOnce
  split
  · split
    · rfl
    · exact Cache.line_touch ..
  · rfl

/-- No line of `lines` is Dirty in `k'` that is not Dirty in `k`. -/
def Cache.DirtiesNone (lines : List Nat) (k k' : Cache) : Prop :=
  ∀ m ∈ lines, k'.lineState m = .dirty → k.lineState m = .dirty

theorem Cache.DirtiesNone.dirtyAmong_le {lines : List Nat} {k k' : Cache} (h : k.DirtiesNone lines k') :
    k'.dirtyAmong lines ≤ k.dirtyAmong lines := by
  unfold Cache.dirtyAmong
  rw [← List.countP_eq_length_filter, ← List.countP_eq_length_filter]
  exact List.countP_mono_left fun m hm e => by simpa using h m hm (by simpa using e)

/-- A cached lane dirties its own line and no other. -/
theorem State.writeCached_dirtiesNone {lines : List Nat} (size : Nat) {l : DestLane} (hl : l.address / 64 ∉ lines) :
    s.cache.DirtiesNone lines (s.writeCached size l).cache := by
  intro m hm hd
  have hne : m ≠ l.address / 64 := fun e => hl (e ▸ hm)
  unfold State.writeCached at hd
  dsimp only at hd
  split at hd
  · rw [Cache.lineState_eq, State.touchOnce_line, ← Cache.lineState_eq] at hd
    rwa [State.modCache_cache, Cache.lineState_modLine_ne _ hne] at hd
  · rwa [State.modCache_cache, Cache.lineState_modLine_ne _ hne] at hd

theorem foldl_dirtiesNone {α : Type} {lines : List Nat} {g : State → α → State} :
    ∀ (xs : List α) (s : State), (∀ x ∈ xs, ∀ s : State, s.cache.DirtiesNone lines (g s x).cache) →
      s.cache.DirtiesNone lines (xs.foldl g s).cache
  | [], _, _ => fun _ _ h => h
  | x :: xs, s, hg => fun m hm hd =>
    hg x List.mem_cons_self s m hm
      (foldl_dirtiesNone xs (g s x) (fun y hy => hg y (List.mem_cons_of_mem _ hy)) m hm hd)

theorem State.releasePins_dirtiesNone (lines : List Nat) (b : Beat) :
    s.cache.DirtiesNone lines (s.releasePins b).cache := by
  intro m _
  unfold State.releasePins
  rw [State.modCache_cache]
  generalize s.cache = k
  induction b.acqs generalizing k with
  | nil => exact id
  | cons q acqs ih =>
    intro hd
    exact Cache.dirty_of_modLine (ih _ hd) fun _ e => e

theorem State.clearBypassLine_dirtiesNone (lines : List Nat) (n : Nat) :
    s.cache.DirtiesNone lines (s.clearBypassLine n).cache := by
  intro m _ hd
  unfold State.clearBypassLine at hd
  split at hd
  · split at hd
    · exact Cache.dirty_of_modLine hd fun l e => by simp [CacheLine.drop] at e
    · refine Cache.dirty_of_modLine hd fun l e => ?_
      split at e
      · simp [CacheLine.drop] at e
      · exact e
  · exact hd

/-- Only a Dirty line that a bypass write names moves to the eviction buffer (R142). -/
theorem State.clearBypassLine_length (n : Nat) : (s.clearBypassLine n).cache.evict.length =
    s.cache.evict.length + (s.cache.lineState n == .dirty).toNat := by
  unfold State.clearBypassLine Cache.lineState
  cases hl : s.cache.line n with
  | none => rfl
  | some l =>
    dsimp only
    split
    · next hd => simp [State.evictLine_evict, hd]
    · next hd => simp [State.dropClean, hd]

theorem State.clearBypassLine_settles (n : Nat)
    (hr : s.cache.evict.length + (s.cache.lineState n == .dirty).toNat ≤ Config.evictEntries) :
    s.Settles P (s.clearBypassLine n) := by
  unfold State.clearBypassLine
  unfold Cache.lineState at hr
  split
  · next l hl =>
    split
    · next hd =>
      simp only [hl, hd, Bool.toNat_true] at hr
      exact .evictLine (State.modLine_settles ..) (fun _ => by simpa using hr) ..
    · exact State.dropClean_settles _
  · exact .refl s

theorem Cache.dirtyAmong_cons (k : Cache) (n : Nat) (ns : List Nat) :
    k.dirtyAmong (n :: ns) = (k.lineState n == .dirty).toNat + k.dirtyAmong ns := by
  unfold Cache.dirtyAmong
  rw [List.filter_cons]
  cases k.lineState n == .dirty
  · simp
  · simp [Nat.add_comm]

/-- The lines of a bypass destination leave the cache; the eviction buffer has room for the Dirty ones (R142). -/
theorem clearBypassLines_settles : ∀ (lines : List Nat) (s : State),
    s.cache.evict.length + s.cache.dirtyAmong lines ≤ Config.evictEntries →
      s.Settles P (lines.foldl State.clearBypassLine s)
  | [], s, _ => .refl s
  | n :: ns, s, hr => by
    rw [Cache.dirtyAmong_cons] at hr
    have hrest := (s.clearBypassLine_dirtiesNone ns n).dirtyAmong_le
    refine (State.clearBypassLine_settles n (by omega)).trans (clearBypassLines_settles ns _ ?_)
    rw [State.clearBypassLine_length]
    omega

/-- The lines of some lanes are those of one of the lanes. -/
theorem mem_linesOf {dest : List DestLane} {n : Nat} : n ∈ linesOf dest ↔ ∃ l ∈ dest, l.address / 64 = n := by
  have key : ∀ (dest : List DestLane) (acc : List Nat),
      n ∈ dest.foldl (fun acc l => if acc.contains (l.address / 64) then acc else l.address / 64 :: acc) acc ↔
        n ∈ acc ∨ ∃ l ∈ dest, l.address / 64 = n := by
    intro dest
    induction dest with
    | nil => simp
    | cons l ls ih =>
      intro acc
      rw [List.foldl_cons, ih, List.exists_mem_cons_iff]
      split
      · next hc =>
        have hm : l.address / 64 ∈ acc := by simpa using hc
        constructor
        · rintro (h | h)
          · exact .inl h
          · exact .inr (.inr h)
        · rintro (h | rfl | h)
          · exact .inl h
          · exact .inl hm
          · exact .inr h
      · rw [List.mem_cons, eq_comm (a := n)]
        tauto
  rw [linesOf, List.mem_reverse, key]
  simp

/-- Whether a lane is written by the bypass path is a matter of its line (R141). -/
theorem Beat.laneBypasses_congr (b : Beat) (x : Current) {k l : DestLane} (h : k.address / 64 = l.address / 64) :
    b.laneBypasses x k = b.laneBypasses x l := by
  unfold Beat.laneBypasses
  rw [h]

/-- A lane that does not bypass lies in no line of the bypass lanes. -/
theorem Beat.not_mem_bypassLines {b : Beat} {x : Current} {l : DestLane} (h : b.laneBypasses x l = false) :
    l.address / 64 ∉ linesOf (b.bypassLanes x) := by
  intro hm
  obtain ⟨k, hk, he⟩ := mem_linesOf.1 hm
  have hb := (List.mem_filter.1 hk).2
  rw [b.laneBypasses_congr x he, h] at hb
  cases hb

/-- The commit of a beat: the eviction buffer has the room that it was granted for (R142). -/
theorem State.commit_settles {b : Beat} {x : Current} (hr : s.commitReady b x = true) : s.Settles P (s.commit b x) := by
  unfold State.commit
  extract_lets c size bypass s₁ written unpinned released cleared asked
  have hroom : s.cache.evict.length + s.cache.dirtyAmong (linesOf bypass) ≤ Config.evictEntries := by
    simp only [State.commitReady, Bool.and_eq_true, Cache.room_iff] at hr
    exact hr.2
  have hwritten : s.Settles P written :=
    (State.modBeat_settles _).trans (foldl_settles (fun s l => s.writeCached_settles size l) _ s₁)
  have hreleased : s.Settles P released := (hwritten.trans (State.releasePins_settles b)).trans (.of_same rfl rfl rfl)
  have hdirty : s.cache.DirtiesNone (linesOf bypass) released.cache := by
    intro m hm hd
    refine foldl_dirtiesNone (s := s₁) _ (fun l hl s => ?_) m hm (written.releasePins_dirtiesNone _ b m hm hd)
    exact State.writeCached_dirtiesNone size (Beat.not_mem_bypassLines (by simpa using (List.mem_filter.1 hl).2))
  have hevict : released.cache.evict = s.cache.evict := by
    have hp : released.cache.evict = written.cache.evict := foldl_keeps (p := Cache.evict) (fun k q => by simp) _ _
    rw [hp]
    exact foldl_keeps (p := fun u : State => u.cache.evict) (fun u l => u.writeCached_evict size l) _ _
  have hcleared : s.Settles P cleared := by
    refine hreleased.trans (clearBypassLines_settles (linesOf bypass) released ?_)
    rw [hevict]
    exact (Nat.add_le_add_left hdirty.dirtyAmong_le _).trans hroom
  have hasked : s.Settles P asked := hcleared.trans (foldl_settles (fun _ _ => State.ask_settles _) _ cleared)
  exact .after (.modCh fun h => h.committed_settles _) hasked

theorem State.beatStep_settles : ∀ t ∈ s.beatStep, s.Settles P t := by
  intro t ht
  unfold State.beatStep at ht
  split at ht
  · cases ht
  · next b _ =>
    extract_lets h at ht
    split at ht
    · cases ht
    · next x _ =>
      have hdone : s.Settles P (if b.stage == .index then s.indexDone b h x else s.compute b h x) := by
        split
        · exact s.indexDone_settles b h x
        · exact s.compute_settles b h x
      cases hb : b.stage with
      | scatter =>
        simp only [hb] at ht
        split at ht
        · exact s.failStage_settles _ _ t ht
        · split at ht
          · next u hu => exact s.acquirePass_settles _ t (hu.trans ht)
          · split at ht
            · next hr =>
              obtain rfl := Option.some.inj ht
              exact State.commit_settles hr
            · cases ht
      | index | source =>
        simp only [hb] at ht
        split at ht
        · exact s.failStage_settles _ _ t ht
        · split at ht
          · obtain rfl := Option.some.inj ht
            rw [hb] at hdone
            exact hdone
          · exact s.readPass_settles _ t ht

theorem State.grantBeat_settles : s.Settles P s.grantBeat := by
  unfold State.grantBeat
  split
  · exact .refl s
  · split
    · exact .refl s
    · next c u hu => exact (s.arbiterChoice_settles (c, u) hu).trans (State.startAttempt_settles ..)

/-! ### Sweeps, the power controller, and settling -/

theorem State.startSweep_settles : ∀ t ∈ s.startSweep, s.Settles P t := by
  unfold State.startSweep
  split
  · extract_lets kind n started
    have hstarted : s.Settles P started := .modCache rfl rfl
    clear_value started kind
    cases kind with
    | flush c =>
      rintro t ⟨⟩
      refine hstarted.trans (.modCh fun h => ?_)
      split
      · exact .same rfl rfl rfl rfl
      · exact .refl h
    | command | dormantEntry =>
      rintro t ⟨⟩
      exact hstarted
  · simp

theorem State.endCommandSweep_settles : ∀ t ∈ s.endCommandSweep, s.Settles P t := by
  unfold State.endCommandSweep
  split
  · rintro t ⟨⟩
    exact .modCache rfl rfl
  · simp

theorem State.setPower_settles (p : PowerState) : s.Settles P (s.setPower p) := .of_same rfl rfl rfl
theorem State.setDormantStep_settles (x : DormantStep) : s.Settles P (s.setDormantStep x) := .of_same rfl rfl rfl
theorem State.ack_settles (kind : EventKind) : s.Settles P (s.ack kind) := State.post_settles _

theorem State.dormantNext_settles : ∀ t ∈ s.dormantNext, s.Settles P t := by
  have hend (p : PowerState) : s.Settles P ((s.setPower p).setDormantStep .none) :=
    (State.setPower_settles p).trans (State.setDormantStep_settles _)
  unfold State.dormantNext
  split
  · simp
  · split
    · rintro t ⟨⟩
      exact .after (State.setDormantStep_settles _) (.modCache rfl rfl)
    · simp
  · split
    · split <;> rintro t ⟨⟩
      · exact hend _
      · exact (State.setDormantStep_settles _).trans (State.ack_settles _)
    · simp
  · split
    · rintro t ⟨⟩
      exact hend _
    · split
      · rintro t ⟨⟩
        exact hend _
      · simp

theorem State.softInitDone_settles : ∀ t ∈ s.softInitDone, s.Settles P t := by
  unfold State.softInitDone
  split
  · rintro t ⟨⟩
    exact .after (State.forChans_settles fun c s => .modCh fun _ => .same rfl rfl rfl rfl) (.of_same rfl rfl rfl)
  · simp

theorem State.quiescingDone_settles : ∀ t ∈ s.quiescingDone, s.Settles P t := by
  unfold State.quiescingDone
  split
  · rintro t ⟨⟩
    exact (State.setPower_settles _).trans (State.ack_settles _)
  · simp

/-- One action of the part's own (log 6): the channels of `P` are in Error, and keep their condition. -/
theorem State.progress_settles (hP : ∀ d, P d → (s.ch d).state = .error) (h : s.progress = some t) : s.Settles P t := by
  obtain ⟨c, h⟩ | h | h | h | h | h | h | h := State.progress_cases h
  · exact s.chanStep_settles (hP c) t h
  · exact s.beatStep_settles t h
  · exact s.serve_settles t h
  · exact s.endCommandSweep_settles t h
  · exact s.startSweep_settles t h
  · exact s.softInitDone_settles t h
  · exact s.quiescingDone_settles t h
  · exact s.dormantNext_settles t h

/-- A channel that keeps its condition stays in Error. -/
theorem State.Steady.error (h : s.Steady P t) (hP : ∀ d, P d → (s.ch d).state = .error) :
    ∀ d, P d → (t.ch d).state = .error := fun d hd => (congrArg Prod.fst (h.condition d hd)).trans (hP d hd)

/-- Everything the part does until it waits. -/
theorem State.settle_settles (hP : ∀ d, P d → (s.ch d).state = .error) : s.Settles P s.settle :=
  settleLoop_induction (P := fun u => s.Settles P u)
    (fun _ _ hu h => hu.trans (State.progress_settles (hu.toSteady.error hP) h)) _ s (.refl s)

/-- The end of a command, after which the part has gone on of its own accord. -/
theorem State.close_steady : s.Steady P s.close :=
  .of_same s.close_chans (by rw [State.close_cache]; rfl)

theorem State.settleClose_steady (hP : ∀ d, P d → (s.ch d).state = .error) : s.Steady P s.settleClose :=
  (State.settle_settles hP).toSteady.trans State.close_steady

/-- Settles O13: no action of the part changes a setting, and none touches the queue. -/
theorem settleKeepsConfiguration : Obligations.SettleKeepsConfiguration := by
  intro s t
  have h : s.Settles (fun _ => False) t := State.settle_settles fun _ h => h.elim
  have hs := h.setup
  simp only [State.setup, Prod.mk.injEq] at hs
  obtain ⟨⟨hq, hi, hd, hc⟩, hr, ⟨hb, hz, hh⟩, hp⟩ := hs
  refine ⟨s.settle_pending, hq, hi, hd, hc, hr, hb, hz, hh, hp, fun c => ?_⟩
  have hch := h.chans c
  simp only [Channel.setup, Ring.setup, Prod.mk.injEq] at hch
  obtain ⟨hcomp, hcsb, hap, ⟨hnb, hns, hnp⟩, heb, hes, hep⟩ := hch
  exact ⟨hcomp, hcsb, hap, hnb, hns, hnp, heb, hes, hep⟩

end Sys2Proof.Machine
end

section
/-! PROOF. What every command keeps: the bounds of the lists (R23, R143, R163; O8), and the condition of a channel in Error
(R109; O12).  Register writes, channel commands, power requests and responses, in the order of the model. -/
namespace Sys2Proof.Machine
variable {P : Chan → Prop} {s t u : State} {c : Chan}

/-- The channels of `P` are in Error. -/
def State.InError (s : State) (P : Chan → Prop) : Prop := ∀ d, P d → (s.ch d).state = .error

theorem State.InError.not {c : Chan} (h : s.InError P) (hc : (s.ch c).state ≠ .error) : ¬P c := fun hp => hc (h c hp)

/-! ### Resets and channel commands -/

theorem State.channelReset_steady (hc : ¬P c) : s.Steady P (s.channelReset c) := by
  unfold State.channelReset
  extract_lets given swept
  have hgiven : s.Steady P given := ((State.discardBeat_settles c).trans (State.giveUp_settles _)).toSteady
  have hswept : s.Steady P swept := hgiven.trans (.of_same rfl rfl)
  exact hswept.trans (.modCh fun h => ⟨⟨fun _ => Nat.zero_le _, fun _ => Nat.zero_le _⟩, fun e => absurd e hc⟩)

theorem State.powerOn_steady (hP : ∀ d, ¬P d) : s.Steady P s.powerOn where
  bounded _ := ⟨fun _ => by simp [State.powerOn, State.ch, State.reset, Channel.reset],
    fun _ => by simp [State.powerOn, State.ch, State.reset, Channel.reset]⟩
  evict _ := Nat.zero_le _
  condition d hd := absurd hd (hP d)

theorem State.deviceReset_steady (hP : ∀ d, ¬P d) : s.Steady P s.deviceReset :=
  (State.powerOn_steady hP).trans (.of_same rfl rfl)

theorem State.forChans_steady {f : Chan → State → State} (hf : ∀ c (s : State), s.Steady P (f c s)) :
    s.Steady P (s.forChans f) := foldl_steady (fun s c => hf c s) _ _

theorem State.softInitAgain_steady : s.Steady P s.softInitAgain := by
  unfold State.softInitAgain
  exact .after (State.forChans_steady fun c s => .modCh fun h => ⟨⟨id, fun _ => Nat.zero_le _⟩, fun _ => rfl⟩)
    (.of_same rfl rfl)

theorem State.softInit_steady (hP : ∀ d, ¬P d) : s.Steady P s.softInit := by
  unfold State.softInit
  split
  · exact State.softInitAgain_steady
  · extract_lets released link kept isChannels orphaned reset
    have hreleased : s.Steady P released := foldl_steady (fun s c => (s.releaseGrant_settles c).toSteady) _ _
    have hkept : s.Steady P kept := hreleased.trans (.of_same rfl rfl)
    have horphaned : s.Steady P orphaned := hkept.trans (State.orphan_settles _).toSteady
    have hreset : s.Steady P reset := horphaned.trans <| State.forChans_steady fun c s => .modCh fun h =>
      ⟨⟨fun _ => Nat.zero_le _, fun _ => Nat.zero_le _⟩, fun e => absurd e (hP c)⟩
    exact hreset.trans (.of_same rfl rfl)

theorem Channel.claimLatched_settles {p : Prop} (h : Channel) : h.Settles p h.claimLatched := by
  unfold Channel.claimLatched
  split
  · exact .same rfl rfl rfl rfl
  · exact .refl h

theorem State.retry_settles (c : Chan) (f : FaultRec) : s.Settles P (s.retry c f) := by
  unfold State.retry
  split
  · exact .modCh fun _ => .same rfl rfl rfl rfl
  · exact State.startFetch_settles ..

theorem State.abandon_settles (c : Chan) (f : FaultRec) : s.Settles P (s.abandon c f) := by
  unfold State.abandon
  split
  · exact State.complete_settles ..
  · exact .modCh Channel.finish_settles

theorem Channel.skipBeat_settles {p : Prop} (h : Channel) : h.Settles p h.skipBeat := by
  unfold Channel.skipBeat
  split
  · exact .same rfl rfl rfl rfl
  · exact .refl h

theorem State.resume_settles (hc : ¬P c) (cmd : ChanCmd) : s.Settles P (s.resume c cmd) := by
  have hr : s.Settles P (s.modCh c Channel.resumed) := .modCh fun _ => .work hc rfl rfl rfl
  unfold State.resume
  cases cmd with
  | resumeRetry => exact .after (State.retry_settles ..) hr
  | resumeSkip => exact hr.trans (.modCh Channel.skipBeat_settles)
  | resumeSubstitute => exact hr.trans (.modCh fun _ => .same rfl rfl rfl rfl)
  | resumeAbandon => exact .after (State.abandon_settles ..) hr
  | enable | disable | reset | park | unpark => exact hr

theorem State.acceptPark_settles (hc : ¬P c) : s.Settles P (s.acceptPark c) := by
  unfold State.acceptPark
  dsimp only
  split
  · exact State.beginSave_settles hc _
  · exact State.beginSave_settles hc _
  · split
    · exact .setCh (.same rfl rfl rfl rfl)
    · exact .refl s
    · exact .setCh (.same rfl rfl rfl rfl)
  case h_4 | h_5 | h_6 => exact .setCh (.same rfl rfl rfl rfl)
  all_goals exact .refl s

theorem Channel.disabled_settles {p : Prop} (hp : ¬p) (h : Channel) : h.Settles p h.disabled := by
  unfold Channel.disabled
  dsimp only
  split
  · exact .work hp rfl rfl rfl
  · exact .work hp rfl rfl rfl
  · exact .work hp rfl rfl rfl
  · exact .refl h

theorem State.accept_steady (hc : ¬P c) (cmd : ChanCmd) : s.Steady P (s.accept c cmd) := by
  have hr : s.Settles P (s.modCh c fun h => { h with reason := .none }) := .modCh fun _ => .same rfl rfl rfl rfl
  unfold State.accept
  cases cmd with
  | enable => exact hr.toSteady.trans (.modCh fun _ => ⟨.same rfl rfl, fun e => absurd e hc⟩)
  | disable => exact hr.toSteady.trans (.modCh fun h => (h.disabled_settles hc).toSteady)
  | reset => exact hr.toSteady.trans (State.channelReset_steady hc)
  | park => exact (hr.trans (State.acceptPark_settles hc)).toSteady
  | unpark => exact (hr.trans (State.beginRestore_settles hc _)).toSteady
  | resumeRetry | resumeSkip | resumeSubstitute | resumeAbandon =>
    exact (hr.trans (State.resume_settles hc _)).toSteady

theorem State.reject_steady (c : Chan) (r : Reason) : s.Steady P (s.reject c r) :=
  .modCh fun _ => ⟨.same rfl rfl, fun _ => rfl⟩

/-- A command is judged: in Error every command but Reset is rejected (R27, R109). -/
theorem State.judge_steady (hP : s.InError P) {cmd : ChanCmd} (hc : P c → cmd ≠ .reset) :
    s.Steady P (s.judge c cmd) := by
  unfold State.judge
  split
  · next h => exact State.accept_steady (fun hp => hc hp (by simpa using h)) cmd
  · split
    · exact State.reject_steady ..
    · split
      · exact State.reject_steady ..
      · next he =>
        have hn : ¬P c := hP.not (by simpa using he)
        split
        · exact State.reject_steady ..
        · exact State.accept_steady hn cmd

theorem State.judgeNow_steady (hP : s.InError P) {cmd : ChanCmd} (hc : P c → cmd ≠ .reset) :
    s.Steady P (s.judgeNow c cmd) := by
  unfold State.judgeNow
  dsimp only
  split
  · exact .after (.modCh fun h => h.claimLatched_settles.toSteady) (State.judge_steady hP hc)
  · exact State.judge_steady hP hc

/-- A command written to Channel Command: it is deferred where the deferred list has room (R163). -/
theorem State.command_steady (hP : s.InError P) {cmd : ChanCmd} (hc : P c → cmd ≠ .reset) :
    s.Steady P (s.command c cmd) := by
  unfold State.command
  split
  · exact State.judgeNow_steady hP hc
  · split
    · next hroom =>
      refine .setCh ⟨⟨id, fun _ => ?_⟩, fun _ => rfl⟩
      rw [List.length_append]
      exact hroom
    · exact State.reject_steady ..

/-- Commands judged in turn. -/
theorem foldl_judge_steady : ∀ (cmds : List ChanCmd) (s : State), s.InError P → (P c → .reset ∉ cmds) →
    s.Steady P (cmds.foldl (fun s cmd => s.judge c cmd) s)
  | [], s, _, _ => .refl s
  | cmd :: cmds, s, hP, hc => by
    have h := s.judge_steady (c := c) hP (cmd := cmd) fun hp e => hc hp (e ▸ List.mem_cons_self)
    exact h.trans (foldl_judge_steady cmds _ (h.error hP) fun hp hm => hc hp (List.mem_cons_of_mem _ hm))

/-- The deferred commands of the channels `cs` are judged in turn. -/
theorem foldl_judges_steady (lists : Chan → List ChanCmd) (hD : ∀ d, P d → .reset ∉ lists d) :
    ∀ (cs : List Chan) (s : State), s.InError P →
      s.Steady P (cs.foldl (fun s c => (lists c).foldl (fun s cmd => s.judge c cmd) s) s)
  | [], s, _ => .refl s
  | c :: cs, s, hP => by
    have h := foldl_judge_steady (c := c) (lists c) s hP (hD c)
    exact h.trans (foldl_judges_steady lists hD cs _ (h.error hP))

/-- The release of a quiesce (R164): no deferred list of a channel of `P` holds a Reset. -/
theorem State.release_steady (hP : s.InError P) (hD : ∀ d, P d → .reset ∉ (s.ch d).deferred) : s.Steady P s.release := by
  unfold State.release
  extract_lets d active lists freed judged
  have hfreed : s.Steady P freed := by
    refine .after (State.forChans_steady fun c s => .modCh fun h => ?_) (.of_same rfl rfl)
    exact ⟨⟨id, fun _ => Nat.zero_le _⟩, fun _ => rfl⟩
  have hjudged : s.Steady P judged := hfreed.trans (foldl_judges_steady lists hD _ _ (hfreed.error hP))
  exact hjudged.trans (State.forChans_steady fun c s => .modCh fun h => h.claimLatched_settles.toSteady)

/-- A write to Device Control (R160): it resets only by its own bits. -/
theorem State.deviceControl_steady (hP : s.InError P) (hD : ∀ d, P d → .reset ∉ (s.ch d).deferred) {w : Word32}
    (hw : wordResets w = false ∨ ∀ d, ¬P d) : s.Steady P (s.deviceControl w) := by
  have hsoft : dcSoftInit w = true → ∀ d, ¬P d := fun h => hw.resolve_left (by
    intro e; simp only [wordResets, Bool.or_eq_false_iff] at e; exact absurd (h.symm.trans e.1) (by decide))
  have hdev : dcDeviceReset w = true → ∀ d, ¬P d := fun h => hw.resolve_left (by
    intro e; simp only [wordResets, Bool.or_eq_false_iff] at e; exact absurd (h.symm.trans e.2) (by decide))
  unfold State.deviceControl
  split
  · next h => exact State.deviceReset_steady (hdev h)
  · split
    · unfold State.controlEffect
      split
      · next h => exact State.softInit_steady (hsoft h)
      · extract_lets changes d enabled
        have henabled : s.Steady P enabled := .of_same rfl rfl
        split
        · exact henabled.trans (.of_same rfl rfl)
        · split
          · exact henabled.trans (.of_same rfl rfl)
          · split
            · split
              · exact henabled.trans (.of_same rfl rfl)
              · exact henabled.trans (State.release_steady hP hD)
            · exact henabled
    · exact .of_same rfl rfl

/-! ### Responses and the part's own events -/

theorem State.writeDone_steady (r : Req) : s.Steady P (s.writeDone r) := by
  unfold State.writeDone
  split
  · split
    · exact .refl s
    · exact .of_same rfl rfl
  · split
    · exact .refl s
    · exact .of_same rfl rfl
  · exact .refl s

theorem State.considerPrefetch_settles (c : Chan) (n : Nat) : s.Settles P (s.considerPrefetch c n) := by
  unfold State.considerPrefetch
  split
  · exact State.askFill_settles ..
  · exact .refl s

theorem State.takeFill_settles (n : Nat) (bytes : Line) : s.Settles P (s.takeFill n bytes) := State.modBeat_settles _
theorem State.failFill_settles (n : Nat) (reason : FailReason) : s.Settles P (s.failFill n reason) :=
  State.modBeat_settles _
theorem State.reopenAcq_settles (n : Nat) : s.Settles P (s.reopenAcq n) := State.modBeat_settles _

theorem State.fillData_settles (r : Req) (state : LineState) (bytes : Line) : s.Settles P (s.fillData r state bytes) := by
  unfold State.fillData
  extract_lets n filled
  have hfilled : s.Settles P filled :=
    ((State.modLine_settles ..).trans (State.takeFill_settles ..)).trans (State.reopenAcq_settles _)
  split
  · exact hfilled.trans (State.considerPrefetch_settles ..)
  · exact hfilled

theorem State.upgradeDone_settles (n : Nat) : s.Settles P (s.upgradeDone n) :=
  .after (State.reopenAcq_settles _) (State.modLine_settles ..)

theorem State.upgradeData_settles (n : Nat) (bytes : Line) : s.Settles P (s.upgradeData n bytes) :=
  .after (State.reopenAcq_settles _) (State.modLine_settles ..)

theorem State.lineFail_settles (r : Req) (reason : FailReason) : s.Settles P (s.lineFail r reason) :=
  .after (State.failFill_settles ..) (State.modLine_settles ..)

/-- An eviction buffer entry leaves (R143). -/
theorem State.leaveEviction_steady (n : Nat) : s.Steady P (s.leaveEviction n) where
  bounded _ := .same rfl rfl
  evict h := (List.length_filter_le ..).trans h
  condition _ _ := rfl

theorem State.answered_steady (r : Req) (resp : Response) : s.Steady P (s.answered r resp) := by
  unfold State.answered
  split
  · exact (State.fillData_settles ..).toSteady
  · exact (State.fillData_settles ..).toSteady
  · exact (State.upgradeData_settles ..).toSteady
  · exact (State.upgradeDone_settles _).toSteady
  · exact (State.deliverRead_settles ..).toSteady
  · exact State.leaveEviction_steady _
  · exact State.writeDone_steady _
  · exact .refl s

theorem State.lostWriteBack_steady (r : Req) : s.Steady P (s.lostWriteBack r) := by
  unfold State.lostWriteBack
  refine .after (State.post_settles _).toSteady (.after (State.leaveEviction_steady _) ?_)
  exact .of_same rfl (by simp)

theorem State.prefetchFailed_steady (r : Req) (reason : FailReason) : s.Steady P (s.prefetchFailed r reason) :=
  (State.lineFail_settles r reason).toSteady.trans (.of_same rfl rfl)

theorem State.bypassFailed_settles (c : Chan) (beat : Nat) (lanes : List (Nat × Nat)) (reason : FailReason) :
    s.Settles P (s.bypassFailed c beat lanes reason) := by
  unfold State.bypassFailed
  exact .after (.modCh fun _ => .same rfl rfl rfl rfl) (State.discardBeat_settles c)

theorem State.enterFatal_steady : s.Steady P s.enterFatal := by
  unfold State.enterFatal
  exact .after (State.forChans_steady fun c s => .modCh fun _ => ⟨.same rfl rfl, fun _ => rfl⟩) (.of_same rfl rfl)

theorem State.readFailed_settles (hP : s.InError P) (r : Req) (reason : FailReason) :
    s.Settles P (s.readFailed r reason) := by
  unfold State.readFailed
  split
  · exact .refl s
  · split
    · exact State.modBeat_settles _
    · refine .modCh fun h => ?_
      split
      · exact .same rfl rfl rfl rfl
      · exact .refl h
    · exact State.enterError_settles (hP _) ..
    · exact .refl s

theorem State.writeFailed_steady (hP : s.InError P) (r : Req) (reason : FailReason) :
    s.Steady P (s.writeFailed r reason) := by
  unfold State.writeFailed
  split
  · exact .refl s
  · split
    · exact (State.bypassFailed_settles ..).toSteady
    · exact (State.enterError_settles (hP _) ..).toSteady
    · exact (State.enterError_settles (hP _) ..).toSteady
    · exact State.enterFatal_steady
    · exact .refl s

theorem State.failed_steady (hP : s.InError P) (r : Req) (reason : FailReason) : s.Steady P (s.failed r reason) := by
  have hline : s.Steady P (if r.isPrefetch then s.prefetchFailed r reason else s.lineFail r reason) := by
    split
    · exact State.prefetchFailed_steady ..
    · exact (State.lineFail_settles ..).toSteady
  unfold State.failed
  split
  · exact hline
  · exact hline
  · exact hline
  · exact State.lostWriteBack_steady _
  · exact (State.readFailed_settles hP ..).toSteady
  · exact State.writeFailed_steady hP ..

theorem State.outcome_steady (hP : s.InError P) (r : Req) (resp : Response) : s.Steady P (s.outcome r resp) := by
  unfold State.outcome
  split
  · exact State.failed_steady hP ..
  · exact State.answered_steady ..

theorem State.receive_steady (hP : s.InError P) (t : TagId) (gen : Bool) (resp : Response) :
    s.Steady P (s.receive t gen resp) := by
  unfold State.receive
  split
  · have h : s.Steady P (s.freeOutstanding t) := .of_same rfl rfl
    exact h.trans (State.outcome_steady (h.error hP) ..)
  · exact .of_same rfl rfl

theorem State.expire_steady (hP : s.InError P) (t : TagId) : s.Steady P (s.expire t) := by
  unfold State.expire
  dsimp only
  split
  · split
    · exact .refl s
    · have h : s.Steady P { s with link := s.link.putTag t (s.link.tag t).expire } := .of_same rfl rfl
      exact h.trans (State.failed_steady (h.error hP) ..)
  · exact .refl s

theorem State.send_steady (m : Message) : s.Steady P (s.send m) := .of_same rfl rfl

theorem State.probe_steady (address : Word64) (invalidate : Bool) : s.Steady P (s.probe address invalidate) := by
  unfold State.probe
  extract_lets n after change
  have hchange : s.Steady P (change s) := (State.modLine_settles ..).toSteady
  split
  · exact State.send_steady _
  · split
    · exact hchange.trans (State.send_steady _)
    · split
      · exact State.send_steady _
      · split
        · exact State.send_steady _
        · split
          · exact State.send_steady _
          · exact hchange.trans (State.send_steady _)
          · exact hchange.trans (State.send_steady _)
          · exact hchange.trans (State.send_steady _)

theorem State.writeEvent_settles : s.Settles P s.writeEvent := by
  unfold State.writeEvent
  dsimp only
  split
  · exact State.ask_settles _
  · exact .refl s

/-! ### The next set of a sweep -/

/-- A line of a way of a set replaced. -/
def Cache.putLine (k : Cache) (i : SetId) (w : WayId) (upper : Bool) (l : CacheLine) : Cache :=
  k.putSet i ((k.set i).putWay w (((k.set i).way w).setLine upper l))

/-- The Dirty lines of a set, way by way. -/
theorem CacheSet.dirtyLines_eq (x : CacheSet) : x.dirtyLines =
    (x.way 0).dirtyLines + (x.way 1).dirtyLines + (x.way 2).dirtyLines + (x.way 3).dirtyLines := by
  simp [CacheSet.dirtyLines, allWays]

theorem CacheSet.dirtyLines_putWay (x : CacheSet) (w : WayId) (y : CacheWay) :
    (x.putWay w y).dirtyLines + (x.way w).dirtyLines = x.dirtyLines + y.dirtyLines := by
  simp only [CacheSet.dirtyLines_eq, CacheSet.way_putWay]
  fin_cases w <;> simp <;> omega

theorem CacheWay.dirtyLines_setLine (y : CacheWay) (upper : Bool) (l : CacheLine) :
    (y.setLine upper l).dirtyLines + ((y.line upper).state == .dirty).toNat =
      y.dirtyLines + (l.state == .dirty).toNat := by
  cases upper <;> simp [CacheWay.dirtyLines, CacheWay.setLine, CacheWay.line] <;> omega

theorem Cache.dirtyLines_putLine (k : Cache) (i : SetId) (w : WayId) (upper : Bool) (l : CacheLine) :
    ((k.putLine i w upper l).set i).dirtyLines + ((((k.set i).way w).line upper).state == .dirty).toNat =
      (k.set i).dirtyLines + (l.state == .dirty).toNat := by
  have hset : (k.putLine i w upper l).set i = (k.set i).putWay w (((k.set i).way w).setLine upper l) := by
    rw [Cache.putLine, Cache.set_putSet, if_pos rfl]
  have h₁ := (k.set i).dirtyLines_putWay w (((k.set i).way w).setLine upper l)
  have h₂ := ((k.set i).way w).dirtyLines_setLine upper l
  rw [hset]
  omega

/-- The eviction buffer has room for every Dirty line that set `i` still holds (R145). -/
def State.RoomFor (s : State) (i : SetId) : Prop :=
  s.cache.evict.length + (s.cache.set i).dirtyLines ≤ Config.evictEntries

/-- A line of a sweep that is put back no more Dirty than it was. -/
theorem State.putLine_roomFor (i : SetId) (w : WayId) (upper : Bool) {l : CacheLine}
    (hl : l.state = .dirty → (((s.cache.set i).way w).line upper).state = .dirty) (hr : s.RoomFor i) :
    (s.modCache fun k => k.putLine i w upper l).RoomFor i := by
  have h := s.cache.dirtyLines_putLine i w upper l
  have hle : (l.state == .dirty).toNat ≤ ((((s.cache.set i).way w).line upper).state == .dirty).toNat := by
    cases hd : l.state == .dirty with
    | false => exact Nat.zero_le _
    | true => simp [hl (by simpa using hd)]
  unfold State.RoomFor at hr ⊢
  have he : (s.modCache fun k => k.putLine i w upper l).cache.evict = s.cache.evict := rfl
  rw [he, State.modCache_cache]
  omega

/-- A Dirty line of a sweep that moves to the eviction buffer and is Dirty no more. -/
theorem State.evictPut_roomFor (i : SetId) (w : WayId) (upper : Bool) {l : CacheLine} (hl : l.state ≠ .dirty)
    (hd : (((s.cache.set i).way w).line upper).state = .dirty) (hr : s.RoomFor i) (n : Nat) (bytes : Line)
    (sweep : Option Nat) :
    s.cache.evict.length < Config.evictEntries ∧
      ((s.modCache fun k => k.putLine i w upper l).evictLine n bytes sweep).RoomFor i := by
  have h := s.cache.dirtyLines_putLine i w upper l
  have hl' : (l.state == .dirty) = false := by simpa using hl
  rw [hd, hl'] at h
  simp only [beq_self_eq_true, Bool.toNat_true, Bool.toNat_false] at h
  unfold State.RoomFor at hr ⊢
  refine ⟨by omega, ?_⟩
  have hset : ((s.modCache fun k => k.putLine i w upper l).evictLine n bytes sweep).cache.set i =
      (s.cache.putLine i w upper l).set i := rfl
  have he : (s.modCache fun k => k.putLine i w upper l).cache.evict = s.cache.evict := rfl
  rw [hset, State.evictLine_evict, he, List.length_append, List.length_singleton]
  omega

/-- What a sweep does to one line: the line goes where the eviction buffer has room (R145). -/
theorem State.sweepLine_settles (sweep : Sweep) (i : SetId) (w : WayId) (upper : Bool) (hr : s.RoomFor i) :
    s.Settles P (s.sweepLine sweep i w upper) ∧ (s.sweepLine sweep i w upper).RoomFor i := by
  have hput (l : CacheLine) : s.Settles P (s.modCache fun k => k.putLine i w upper l) := .modCache rfl rfl
  have hmove (l : CacheLine) (hl : l.state ≠ .dirty) (hd : (((s.cache.set i).way w).line upper).state = .dirty)
      (n : Nat) (bytes : Line) (o : Option Nat) :
      s.Settles P ((s.modCache fun k => k.putLine i w upper l).evictLine n bytes o) ∧
        ((s.modCache fun k => k.putLine i w upper l).evictLine n bytes o).RoomFor i := by
    obtain ⟨h₁, h₂⟩ := State.evictPut_roomFor i w upper hl hd hr n bytes o
    exact ⟨(hput l).evictLine (fun _ => h₁) .., h₂⟩
  unfold State.sweepLine
  extract_lets y l put
  split
  · split
    · next hd => exact hmove _ (by simp) (by simpa using hd) ..
    · exact ⟨.refl s, hr⟩
  all_goals
    split
    · exact ⟨.refl s, hr⟩
    · split
      · next hd => exact hmove _ (by simp [CacheLine.drop]) (by simpa using hd) ..
      · split
        · exact ⟨.refl s, hr⟩
        · exact ⟨hput _, State.putLine_roomFor i w upper (by simp [CacheLine.drop]) hr⟩

theorem foldl_sweepLine_settles (sweep : Sweep) (i : SetId) : ∀ (ws : List WayId) (s : State), s.RoomFor i →
    s.Settles P (ws.foldl (fun s w => (s.sweepLine sweep i w false).sweepLine sweep i w true) s)
  | [], s, _ => .refl s
  | w :: ws, s, hr => by
    obtain ⟨h₁, hr₁⟩ := State.sweepLine_settles (P := P) sweep i w false hr
    obtain ⟨h₂, hr₂⟩ := State.sweepLine_settles (P := P) sweep i w true hr₁
    exact (h₁.trans h₂).trans (foldl_sweepLine_settles sweep i ws _ hr₂)

/-- The next set of a sweep (R145; log 32). -/
theorem State.sweepNext_settles : s.Settles P s.sweepNext := by
  unfold State.sweepNext
  split
  · exact .refl s
  · next sweep _ =>
    extract_lets i swept
    split
    · exact .refl s
    · next hroom =>
      have hr : s.RoomFor i := (Cache.room_iff ..).1 (by simpa using hroom)
      have hswept : s.Settles P swept := foldl_sweepLine_settles sweep i allWays s hr
      exact hswept.trans (.modCache rfl rfl)

/-! ### Writes to registers -/

theorem State.writeEventSize_steady (v : Word32) : s.Steady P (s.writeEventSize v) := by
  unfold State.writeEventSize
  split
  · exact .of_same rfl rfl
  · dsimp only
    split <;> exact .of_same rfl rfl

theorem State.writeEventBase_steady (half : Half) (v : Word32) : s.Steady P (s.writeEventBase half v) := by
  unfold State.writeEventBase
  split <;> exact .of_same rfl rfl

theorem State.writeEventHead_steady (v : Word32) : s.Steady P (s.writeEventHead v) := by
  unfold State.writeEventHead
  split <;> exact .of_same rfl rfl

/-- A Flush and Invalidate request keeps the eviction buffer. -/
theorem Cache.flushCommand_evict (k : Cache) : k.flushCommand.evict = k.evict := by
  show (if k.flushPending then k else k.request .command).evict = k.evict
  split <;> rfl

theorem State.writeCacheControl_steady (v : Word32) : s.Steady P (s.writeCacheControl v) := by
  unfold State.writeCacheControl
  split
  · split
    · exact .of_same rfl s.cache.flushCommand_evict
    · exact .of_same rfl s.cache.flushCommand_evict
    · exact .of_same rfl rfl
  · exact .of_same rfl rfl

/-- A change of a channel that leaves its condition, its deferred commands, and its link stack or empties it. -/
theorem Channel.Steady.same {p : Prop} {h k : Channel} (hl : k.links = h.links ∨ k.links = [])
    (hd : k.deferred = h.deferred) (he : k.condition = h.condition) : h.Steady p k where
  bounded := ⟨fun b => by rcases hl with e | e <;> rw [e]; exacts [b, Nat.zero_le _], fun b => by rwa [hd]⟩
  condition _ := he

section ChannelWrites
variable {p : Prop} (h : Channel) (v : Word32)

theorem Channel.writeRingSize_steady : h.Steady p (h.writeRingSize v) := by
  unfold Channel.writeRingSize
  split
  · exact .same (.inl rfl) rfl rfl
  · split
    · exact .same (.inl rfl) rfl rfl
    · exact .same (.inr rfl) rfl rfl

theorem Channel.writeExpediteSize_steady : h.Steady p (h.writeExpediteSize v) := by
  unfold Channel.writeExpediteSize
  split
  · exact .same (.inl rfl) rfl rfl
  · split <;> exact .same (.inl rfl) rfl rfl

theorem Channel.writeRingBase_steady (half : Half) : h.Steady p (h.writeRingBase half v) := by
  unfold Channel.writeRingBase
  split <;> exact .same (.inl rfl) rfl rfl

theorem Channel.writeExpediteBase_steady (half : Half) : h.Steady p (h.writeExpediteBase half v) := by
  unfold Channel.writeExpediteBase
  split <;> exact .same (.inl rfl) rfl rfl

theorem Channel.writeCsb_steady (half : Half) : h.Steady p (h.writeCsb half v) := by
  unfold Channel.writeCsb
  dsimp only
  split
  · exact .same (.inl rfl) rfl rfl
  · split
    · exact .same (.inl rfl) rfl rfl
    · split <;> exact .same (.inl rfl) rfl rfl

theorem Channel.writeCompact_steady (on : Bool) : h.Steady p (h.writeCompact on) := by
  unfold Channel.writeCompact
  split
  · exact .same (.inl rfl) rfl rfl
  · split
    · exact .same (.inl rfl) rfl rfl
    · split <;> exact .same (.inl rfl) rfl rfl

theorem Channel.writeAperture_steady (a : WayId) (f : Aperture → Aperture) : h.Steady p (h.writeAperture a f) := by
  unfold Channel.writeAperture
  split <;> exact .same (.inl rfl) rfl rfl

theorem Channel.writeApertureBase_steady (a : WayId) (half : Half) : h.Steady p (h.writeApertureBase a half v) := by
  unfold Channel.writeApertureBase
  exact h.writeAperture_steady ..

theorem Channel.writeApertureLimit_steady (a : WayId) (half : Half) : h.Steady p (h.writeApertureLimit a half v) := by
  unfold Channel.writeApertureLimit
  exact h.writeAperture_steady ..

theorem Channel.writeApertureControl_steady (a : WayId) : h.Steady p (h.writeApertureControl a v) :=
  h.writeAperture_steady ..

theorem Channel.writeStatus_steady : h.Steady p (h.writeStatus v) := .same (.inl rfl) rfl rfl

theorem Channel.writeAcw_steady : h.Steady p (h.writeAcw v) := by
  unfold Channel.writeAcw
  split
  · exact .same (.inl rfl) rfl rfl
  · split <;> exact .same (.inl rfl) rfl rfl

theorem Channel.writeProducer_steady : h.Steady p (h.writeProducer v) := by
  unfold Channel.writeProducer
  split <;> exact .same (.inl rfl) rfl rfl

theorem Channel.writeExpediteProducer_steady : h.Steady p (h.writeExpediteProducer v) := by
  unfold Channel.writeExpediteProducer
  split
  · exact .same (.inl rfl) rfl rfl
  · extract_lets ring rung
    split
    · exact .same (.inl rfl) rfl rfl
    · have hclaim : rung.Settles p rung.claimLatched := rung.claimLatched_settles
      exact ⟨⟨hclaim.bounded.links, hclaim.bounded.deferred⟩, hclaim.condition⟩

end ChannelWrites

/-- A write to a channel register: where it is a command, it is no Reset of a channel of `P`. -/
theorem State.writeChan_steady (hP : s.InError P) {r : ChanReg} {v : Word32}
    (hr : r = .command → P c → ChanCmd.ofCode v ≠ some .reset) : s.Steady P (s.writeChan c r v) := by
  cases r with
  | command =>
    show s.Steady P (s.writeCommand c v)
    unfold State.writeCommand
    split
    · next cmd hcmd => exact State.command_steady hP fun hp e => hr rfl hp (e ▸ hcmd)
    · exact State.reject_steady ..
  | control => exact .modCh fun h => h.writeCompact_steady _
  | status => exact .modCh fun h => h.writeStatus_steady v
  | acw => exact .modCh fun h => h.writeAcw_steady v
  | ringBase half => exact .modCh fun h => h.writeRingBase_steady v half
  | ringSize => exact .modCh fun h => h.writeRingSize_steady v
  | ringProducer => exact .modCh fun h => h.writeProducer_steady v
  | expediteBase half => exact .modCh fun h => h.writeExpediteBase_steady v half
  | expediteSize => exact .modCh fun h => h.writeExpediteSize_steady v
  | expediteProducer => exact .modCh fun h => h.writeExpediteProducer_steady v
  | csbAddress half => exact .modCh fun h => h.writeCsb_steady v half
  | apertureBase a half => exact .modCh fun h => h.writeApertureBase_steady v a half
  | apertureLimit a half => exact .modCh fun h => h.writeApertureLimit_steady v a half
  | apertureControl a => exact .modCh fun h => h.writeApertureControl_steady v a
  | ringConsumer | expediteConsumer | linkDepth | faultWord i => exact .refl s

/-- A write resets nothing that a channel of `P` depends on: neither the device, nor a channel of `P`. -/
structure State.Spares (s : State) (P : Chan → Prop) (r : Option Reg) (v : Word32) : Prop where
  error : s.InError P
  deferred : ∀ d, P d → .reset ∉ (s.ch d).deferred
  device : r = some .deviceControl → wordResets v = false ∨ ∀ d, ¬P d
  channel : ∀ d, r = some (.chan d .command) → P d → ChanCmd.ofCode v ≠ some .reset

theorem State.writeReg_steady {r : Reg} {v : Word32} (h : s.Spares P (some r) v) : s.Steady P (s.writeReg r v) := by
  cases r with
  | deviceControl => exact State.deviceControl_steady h.error h.deferred (h.device rfl)
  | cacheControl => exact State.writeCacheControl_steady v
  | eventBase half => exact State.writeEventBase_steady half v
  | eventSize => exact State.writeEventSize_steady v
  | eventHead => exact State.writeEventHead_steady v
  | chan c r => exact State.writeChan_steady h.error fun e => h.channel c (e ▸ rfl)
  | deviceStatus | responseTimeout | dozeDelay | lostEvents | lateCount | lostWriteBacks | prefetchFails =>
    exact .of_same rfl rfl
  | id | capability | resetCause | acwMask | eventTail => exact .refl s

theorem State.begin_wakeDoze_steady : s.Steady P s.begin.wakeDoze := .of_same rfl rfl

theorem State.offer_steady {r : Option Reg} {v : Word32} (h : s.Spares P r v) : s.Steady P (s.offer r v) := by
  unfold State.offer
  extract_lets woken device written
  have hwoken : s.Steady P woken := State.begin_wakeDoze_steady
  have hwritten : s.Steady P written := by
    dsimp only [written]
    split
    · exact hwoken.trans (.of_same rfl rfl)
    · cases r with
      | none => exact hwoken
      | some r => exact hwoken.trans (State.writeReg_steady ⟨h.error, h.deferred, h.device, h.channel⟩)
  exact hwritten.trans (State.send_steady _)

theorem State.regWrite_steady {r : Reg} {v : Word32} (h : s.Spares P (some r) v) : s.Steady P (s.regWrite r v) :=
  (State.offer_steady h).trans State.close_steady

theorem State.Steady.settleClose (h : s.Steady P t) (hP : s.InError P) : s.Steady P t.settleClose :=
  h.trans (State.settleClose_steady (h.error hP))

theorem State.regWriteSettle_steady {r : Reg} {v : Word32} (h : s.Spares P (some r) v) :
    s.Steady P (s.regWriteSettle r v) := (State.offer_steady h).settleClose h.error

/-! ### Every command -/

/-- The codes of Channel Command name the commands (R178). -/
@[simp] theorem ChanCmd.ofCode_code (cmd : ChanCmd) : ChanCmd.ofCode cmd.code = some cmd := by cases cmd <;> rfl

theorem wordResets_withBit {k : Fin 32} (h₆ : k ≠ 6) (h₇ : k ≠ 7) (w : Word32) :
    wordResets (withBit w k.val) = wordResets w := by
  have e₆ := getElem_withBit w k 6
  have e₇ := getElem_withBit w k 7
  simp only [h₆.symm, h₇.symm, decide_false, Bool.or_false] at e₆ e₇
  exact congrArg₂ or e₆ e₇

theorem wordResets_clearBit (w : Word32) : wordResets (w &&& ~~~1#32) = wordResets w := by
  have e₆ := getElem_clearBit w 6
  have e₇ := getElem_clearBit w 7
  simp only [ne_eq, (by decide : (6 : Fin 32) ≠ 0), (by decide : (7 : Fin 32) ≠ 0), not_false_eq_true, decide_true,
    Bool.and_true] at e₆ e₇
  exact congrArg₂ or e₆ e₇

/-- A write of Interrupt Enable asks for no reset (log 31). -/
theorem wordResets_flags (q on : Bool) : wordResets (flagAt q 0 ||| flagAt on 1) = false := by
  cases q <;> cases on <;> decide

/-- Device Control lies at one offset of the window (R176). -/
theorem Reg.offset_of_deviceControl {o : BitVec 12} (h : Reg.ofOffset o = some .deviceControl) : o = 0x008#12 := by
  unfold Reg.ofOffset at h
  dsimp only at h
  split at h
  · have : o.toNat = 8 := by
      unfold Reg.ofDeviceOffset at h
      split at h
      case h_3 => assumption
      all_goals cases h
    exact BitVec.eq_of_toNat_eq this
  · split at h
    · cases h
    · obtain ⟨r, -, hr⟩ := Option.map_eq_some_iff.1 h
      cases hr

/-- Channel Command lies at one place of a channel block (R178). -/
theorem ChanReg.offset_of_command {o : Nat} (h : ChanReg.ofOffset o = some .command) : o = 4 := by
  unfold ChanReg.ofOffset at h
  dsimp only at h
  split at h
  case h_2 => rfl
  case h_25 =>
    split at h
    · cases h
    · split at h <;> cases h
  all_goals cases h

/-- The Channel Command register of a channel lies at one offset of the window (R178). -/
theorem Reg.offset_of_command {o : BitVec 12} {d : Chan} (h : Reg.ofOffset o = some (.chan d .command)) :
    o = BitVec.ofNat 12 (0x804 + 0x100 * d.val) := by
  unfold Reg.ofOffset at h
  dsimp only at h
  split at h
  · exfalso
    unfold Reg.ofDeviceOffset at h
    split at h <;> cases h
  · split at h
    · cases h
    · next hlo hhi =>
      obtain ⟨r, hr, he⟩ := Option.map_eq_some_iff.1 h
      simp only [Reg.chan.injEq] at he
      obtain ⟨rfl, rfl⟩ := he
      have h4 := ChanReg.offset_of_command hr
      simp only [Bool.or_eq_true, decide_eq_true_eq, not_or, Nat.not_lt, Nat.not_le] at hhi
      apply BitVec.eq_of_toNat_eq
      rw [BitVec.toNat_ofNat]
      dsimp only
      omega

/-- A write to a register that resets nothing. -/
theorem State.Spares.plain (hP : s.InError P) (hD : ∀ d, P d → .reset ∉ (s.ch d).deferred) {r : Reg} (v : Word32)
    (h₁ : r ≠ .deviceControl) (h₂ : ∀ d, r ≠ .chan d .command) : s.Spares P (some r) v :=
  ⟨hP, hD, fun e => absurd (Option.some.inj e) h₁, fun d e => absurd (Option.some.inj e) (h₂ d)⟩

theorem State.arrive_steady (hP : s.InError P) (tag : TagId) (gen : Bool) (resp : Response) :
    s.Steady P (s.arrive tag gen resp) := by
  have hb : s.Steady P s.begin := .of_same rfl rfl
  exact (hb.trans (State.receive_steady (hb.error hP) ..)).settleClose hP

/-- Every command keeps the bounds; and the channels of `P`, which are in Error, keep their condition where the command
resets neither the device nor one of them (R109). -/
theorem exec_steady (i : Instr) (hP : s.InError P) (hD : ∀ d, P d → .reset ∉ (s.ch d).deferred)
    (hdev : i.mayResetDevice = false ∨ ∀ d, ¬P d) (hch : ∀ d, P d → i.mayResetChannel d = false)
    (h : exec i s = .next t) : s.Steady P t := by
  have hb : s.Steady P s.begin := .of_same rfl rfl
  have hplain (r : Reg) (v : Word32) (h₁ : r ≠ .deviceControl) (h₂ : ∀ d, r ≠ .chan d .command) :
      s.Steady P (s.regWrite r v) := State.regWrite_steady (.plain hP hD v h₁ h₂)
  have hplainSettle (r : Reg) (v : Word32) (h₁ : r ≠ .deviceControl) (h₂ : ∀ d, r ≠ .chan d .command) :
      s.Steady P (s.regWriteSettle r v) := State.regWriteSettle_steady (.plain hP hD v h₁ h₂)
  have hspares (w : Word32) (hw : wordResets w = false ∨ ∀ d, ¬P d) : s.Spares P (some .deviceControl) w :=
    ⟨hP, hD, fun _ => hw, fun _ e => nomatch e⟩
  have hcontrol (w : Word32) (hw : wordResets w = false ∨ ∀ d, ¬P d) :
      s.Steady P (s.regWriteSettle .deviceControl w) := State.regWriteSettle_steady (hspares w hw)
  have hcommand (c : Chan) (cmd : ChanCmd) (hc : P c → cmd ≠ .reset) : s.Steady P (s.commandWrite c cmd) :=
    State.regWriteSettle_steady ⟨hP, hD, fun e => (nomatch e), fun d e hd => by
      obtain rfl : c = d := by injection e with e; injection e
      simpa using hc hd⟩
  have hend {u : State} (hs : s.Steady P u) (hu : exec i s = .next u) : s.Steady P t :=
    Host.Outcome.next.inj (hu.symm.trans h) ▸ hs
  cases i with
  | powerOnReset => exact hend (State.powerOn_steady (hdev.resolve_left Bool.noConfusion)) rfl
  | deviceReset word => exact hend (hcontrol _ (.inr (hdev.resolve_left Bool.noConfusion))) rfl
  | softInit word => exact hend (hcontrol _ (.inr (hdev.resolve_left Bool.noConfusion))) rfl
  | quiesce word =>
    exact hend (hcontrol _ (hdev.imp_left (wordResets_withBit (k := 0) (by decide) (by decide) word).trans)) rfl
  | quiesceRelease word => exact hend (hcontrol _ (hdev.imp_left (wordResets_clearBit word).trans)) rfl
  | dormant word =>
    exact hend (hcontrol _ (hdev.imp_left (wordResets_withBit (k := 4) (by decide) (by decide) word).trans)) rfl
  | wake word =>
    exact hend (hcontrol _ (hdev.imp_left (wordResets_withBit (k := 5) (by decide) (by decide) word).trans)) rfl
  | wakeComplete =>
    refine hend ?_ rfl
    split
    · exact State.Steady.settleClose (hb.trans (.of_same rfl rfl)) hP
    · exact hb.trans State.close_steady
  | interruptEnable on => exact hend (State.regWrite_steady (hspares _ (.inl (wordResets_flags ..)))) rfl
  | flushAndInvalidate prefetch => exact hend (hplainSettle .cacheControl _ (by simp) (by simp)) rfl
  | siblingPrefetchEnable on => exact hend (hplain .cacheControl _ (by simp) (by simp)) rfl
  | reset c => exact hend (hcommand c .reset fun hp => absurd (hch c hp) (by simp [Instr.mayResetChannel])) rfl
  | enable c => exact hend (hcommand c .enable fun _ => by simp) rfl
  | disable c => exact hend (hcommand c .disable fun _ => by simp) rfl
  | park c => exact hend (hcommand c .park fun _ => by simp) rfl
  | unpark c => exact hend (hcommand c .unpark fun _ => by simp) rfl
  | resumeRetry c => exact hend (hcommand c .resumeRetry fun _ => by simp) rfl
  | resumeSkip c => exact hend (hcommand c .resumeSkip fun _ => by simp) rfl
  | resumeSubstitute c => exact hend (hcommand c .resumeSubstitute fun _ => by simp) rfl
  | resumeAbandon c => exact hend (hcommand c .resumeAbandon fun _ => by simp) rfl
  | ringProducer | expediteProducer | eventQueueSize => exact hend (hplainSettle _ _ (by simp) (by simp)) rfl
  | ringSize | expediteSize | ringBase | expediteBase | compact | csbAddress | apertureBase | apertureLimit
  | apertureControl | acw | eventQueueBase | eventHead | lostEvents | lateResponseCount | lostWriteBackCount
  | siblingPrefetchFailCount | deviceStatus | channelStatus => exact hend (hplain _ _ (by simp) (by simp)) rfl
  | partialRegisterWrite offset enables value =>
    have hp : s.Steady P s.offerPartial := .of_same rfl rfl
    exact hend (hp.trans State.close_steady) rfl
  | registerWrite offset value =>
    refine hend (u := (s.offer (Reg.ofOffset offset) value).settleClose) (.settleClose (State.offer_steady ?_) hP) rfl
    refine ⟨hP, hD, fun e => hdev.imp_left fun hd => ?_, fun d e hd => ?_⟩
    · simpa [Instr.mayResetDevice, Reg.offset_of_deviceControl e] using hd
    · have := hch d hd
      simp [Instr.mayResetChannel, Reg.offset_of_command e] at this
  | probeShare | probeInvalidate => exact hend ((hb.trans (State.probe_steady ..)).settleClose hP) rfl
  | beatGrant => exact hend ((hb.trans State.grantBeat_settles.toSteady).settleClose hP) rfl
  | fetchSharedData | siblingPrefetchData | fetchOwnedData | upgradeDone | upgradeData | readDirectData
  | descriptorHalfData | csbReadData | bypassWriteDone | completionRecordDone | csbWriteDone | eventRecordDone
  | writelineDone | fetchFail | siblingPrefetchFail | descriptorFetchFail | csbReadFail | bypassWriteFail
  | completionRecordFail | csbWriteFail | eventRecordFail | writelineFail | lateResponse =>
    exact hend (State.arrive_steady hP ..) rfl
  | responseTimeout tag => exact hend ((hb.trans (State.expire_steady (hb.error hP) tag)).settleClose hP) rfl
  | doze =>
    refine hend ?_ rfl
    split
    · exact (hb.trans (State.setPower_settles _).toSteady).trans State.close_steady
    · exact hb.trans State.close_steady
  | sweepSet => exact hend ((hb.trans State.sweepNext_settles.toSteady).settleClose hP) rfl
  | eventRecordWrite => exact hend ((hb.trans State.writeEvent_settles.toSteady).settleClose hP) rfl

/-- A tick of the timebase (R4). -/
theorem State.tick_steady (hP : s.InError P) : s.Steady P s.tick := by
  have hcounted : s.Steady P s.counted := by
    unfold State.counted
    rw [State.tickDoze_eq, State.tickTags_eq _ _ nodup_allTags]
    exact .of_same rfl rfl
  exact hcounted.settleClose hP

/-- Every step keeps the bounds; and the channels of `P`, which are in Error, keep their condition where the command at the
front of the queue resets neither the device nor one of them (R109). -/
theorem step_steady (hP : s.InError P) (hD : ∀ d, P d → .reset ∉ (s.ch d).deferred)
    (hi : ∀ i, s.pending.head? = some i →
      (i.mayResetDevice = false ∨ ∀ d, ¬P d) ∧ ∀ d, P d → i.mayResetChannel d = false)
    (h : step s = .next t) : s.Steady P t := by
  cases hp : s.pending with
  | nil =>
    rw [step_of_nil hp] at h
    exact Host.Outcome.next.inj h ▸ State.tick_steady hP
  | cons i rest =>
    obtain ⟨hdev, hch⟩ := hi i (by rw [hp]; rfl)
    rw [step_of_cons hp] at h
    have hrest : s.Steady P { s with pending := rest } := .of_same rfl rfl
    exact hrest.trans (exec_steady i (hrest.error hP) hD hdev hch h)

/-- Settles O8: no function of the model lengthens a link stack, a deferred command list or the eviction buffer beyond its
four places. -/
theorem stepKeepsBounds : Obligations.StepKeepsBounds := by
  rintro s t ⟨hl, hd, he⟩ h
  have hs : s.Steady (fun _ => False) t := step_steady (fun _ h => h.elim) (fun _ h => h.elim)
    (fun _ _ => ⟨.inr fun _ => id, fun _ h => h.elim⟩) h
  exact ⟨fun c => (hs.bounded c).links (hl c), fun c => (hs.bounded c).deferred (hd c), hs.evict he⟩

/-- Settles O12: a channel in Error keeps its condition over every command that resets neither the device nor the channel,
and over the tick. -/
theorem errorEndsOnlyByReset : Obligations.ErrorEndsOnlyByReset := by
  intro s t c he hd stays
  have hP : s.InError (· = c) := fun d e => e ▸ he
  have hD : ∀ d, d = c → ChanCmd.reset ∉ (s.ch d).deferred := fun d e => e ▸ hd
  have hstays (h : s.Steady (· = c) t) : stays := by
    have hc := h.condition c rfl
    simp only [Channel.condition, Prod.mk.injEq] at hc
    obtain ⟨hstate, hcause, hfault⟩ := hc
    exact ⟨hstate.trans he, hcause, hfault⟩
  refine ⟨fun i hi hc h => hstays ?_, fun hi h => hstays ?_⟩
  · exact exec_steady i hP hD (.inl hi) (fun d e => e ▸ hc) h
  · exact step_steady hP hD (fun i e => ⟨.inl (hi i e).1, fun d hd => hd ▸ (hi i e).2⟩) h

end Sys2Proof.Machine
end

section
/-! PROOF. Writes to the rings of a channel (R7, R8, R88, R120): sizes, bases and doorbells.  Each is a RegWrite whose rule is
a function of the channel, so what is left to say is what that function does. -/
namespace Sys2Proof.Machine
variable {s : State} {c : Chan}

/-- A RegWrite to a channel register, whose rule makes `k` of the channel, and which leaves the part nothing to do. -/
theorem State.regWrite_modCh (ha : s.asleep = false) {r : Reg} {v : Word32} {f : Channel → Channel} {k : Channel}
    (hw : ∀ u : State, u.writeReg r v = u.modCh c f) (hf : f (s.ch c) = k) :
    s.regWrite r v = (s.acknowledged.setCh c k).close := by
  rw [State.regWrite, State.offer_modCh ha hw, hf]

/-- A RegWrite to a channel register, whose rule makes `k` of the channel, and after which the part may go on. -/
theorem State.regWriteSettle_modCh (ha : s.asleep = false) {r : Reg} {v : Word32} {f : Channel → Channel} {k : Channel}
    (hw : ∀ u : State, u.writeReg r v = u.modCh c f) (hf : f (s.ch c) = k) :
    s.regWriteSettle r v = (s.acknowledged.setCh c k).settleClose := by
  rw [State.regWriteSettle, State.offer_modCh ha hw, hf]

/-! ### Ring sizes -/

/-- A value that is in a list of numbers, as the check of a size looks it up. -/
theorem not_contains_iff {xs : List Nat} {n : Nat} : (!xs.contains n) = true ↔ n ∉ xs := by simp

theorem Channel.writeRingSize_eq (h : Channel) (v : Word32) : h.writeRingSize v =
    if h.state ≠ .disabled then { h with reason := .configWrongState }
    else if v.toNat ∉ [0, 16, 32, 64, 128, 256, 512, 1024, 2048, 4096] then { h with reason := .ringSizeInvalid }
    else { h with
      normal := { base := h.normal.base, size := v.toNat, producer := 0, consumer := 0, fetch := 0 }
      links := [], listPos := none } := by
  simp only [Channel.writeRingSize, ringSizeLegal, bne_iff_ne, not_contains_iff]
  rfl

theorem Channel.writeExpediteSize_eq (h : Channel) (v : Word32) : h.writeExpediteSize v =
    if h.state ≠ .disabled then { h with reason := .configWrongState }
    else if v.toNat ∉ [0, 4, 8, 16, 32, 64] then { h with reason := .ringSizeInvalid }
    else { h with
      expedite := { base := h.expedite.base, size := v.toNat, producer := 0, consumer := 0, fetch := 0 } } := by
  simp only [Channel.writeExpediteSize, expediteSizeLegal, bne_iff_ne, not_contains_iff]
  rfl

/-- Settles O15. -/
theorem ringSizeWrites : Obligations.RingSizeWrites := by
  intro s c v ha h
  constructor
  · rw [exec_ringSize, execRingSize,
      State.regWrite_modCh (f := (·.writeRingSize v)) ha (fun _ => rfl) (h.writeRingSize_eq v)]
  · rw [exec_expediteSize, execExpediteSize,
      State.regWrite_modCh (f := (·.writeExpediteSize v)) ha (fun _ => rfl) (h.writeExpediteSize_eq v)]

/-! ### Ring bases -/

/-- A word is a multiple of 4096 where its low 12 bits are 0 (R7). -/
theorem low_bits_eq_zero_iff (v : Word32) : v &&& 0xFFF#32 = 0 ↔ v.toNat % 4096 = 0 := by
  rw [← BitVec.toNat_inj, BitVec.toNat_and]
  exact Eq.congr_left (Nat.and_two_pow_sub_one_eq_mod v.toNat 12)

/-- Why a write to a ring base word is rejected (R7). -/
theorem Channel.baseRefusal_eq (h : Channel) (half : Half) (v : Word32) : h.baseRefusal half v =
    if h.state ≠ .disabled then some .configWrongState
    else if half = .low ∧ v.toNat % 4096 ≠ 0 then some .ringBaseMisaligned
    else none := by
  simp only [Channel.baseRefusal, bne_iff_ne, Bool.and_eq_true, beq_iff_eq, ne_eq, low_bits_eq_zero_iff]

/-- A word of a 64-bit register written; in compact mode the high word stays (R88). -/
theorem Channel.put_eq (h : Channel) (x : Word64) (half : Half) (v : Word32) : h.put x half v =
    match half with
    | .low => x.extractLsb' 32 32 ++ v
    | .high => if h.compact then x else v ++ x.extractLsb' 0 32 := by
  cases half <;> simp [Channel.put, putHalf]

/-- What the rule of a ring base word makes of the channel. -/
theorem Channel.answerBase_eq (h k : Channel) (half : Half) (v : Word32) :
    (match h.baseRefusal half v with
      | some r => { h with reason := r }
      | none => k) =
    if h.state ≠ .disabled then { h with reason := .configWrongState }
    else if half = .low ∧ v.toNat % 4096 ≠ 0 then { h with reason := .ringBaseMisaligned }
    else k := by
  rw [Channel.baseRefusal_eq]
  by_cases hs : h.state ≠ .disabled
  · simp only [if_pos hs]
  · by_cases hv : half = .low ∧ v.toNat % 4096 ≠ 0
    · simp only [if_neg hs, if_pos hv]
    · simp only [if_neg hs, if_neg hv]

/-- Settles O16. -/
theorem ringBaseWrites : Obligations.RingBaseWrites := by
  intro s c half v ha h written answer
  have hput (x : Word64) : h.put x half v = written x := (h.put_eq x half v).trans (by cases half <;> rfl)
  constructor
  · rw [exec_ringBase, execRingBase, State.regWrite_modCh (f := (·.writeRingBase half v)) ha (fun _ => rfl)
      (Channel.answerBase_eq h _ half v), hput]
  · rw [exec_expediteBase, execExpediteBase, State.regWrite_modCh (f := (·.writeExpediteBase half v)) ha (fun _ => rfl)
      (Channel.answerBase_eq h _ half v), hput]

/-! ### Doorbells -/

/-- The distance in a ring is the difference modulo its size (R2). -/
theorem ringDistance_cast {n : Nat} (hn : n ≠ 0) (a b : Nat) : (ringDistance n a b : Int) = ((b : Int) - a) % n := by
  have hle : a % n ≤ b + n := (Nat.mod_lt a (Nat.pos_of_ne_zero hn)).le.trans (Nat.le_add_left ..)
  rw [ringDistance, if_neg hn, Int.natCast_emod, Nat.cast_sub hle, Nat.cast_add, Int.natCast_emod]
  simp [Int.sub_emod]

/-- The check of a doorbell (R8). -/
theorem Ring.doorbellRefusal_eq (r : Ring) (v : Word32) : r.doorbellRefusal v =
    if r.size ≤ v.toNat then some .producerOutOfRange
    else if ((v.toNat : Int) - r.consumer) % r.size < ((r.fetch : Int) - r.consumer) % r.size then
      some .producerBehindFetch
    else none := by
  unfold Ring.doorbellRefusal
  by_cases hv : r.size ≤ v.toNat
  · simp only [if_pos hv]
  · have hn : r.size ≠ 0 := by omega
    simp only [if_neg hv, ← ringDistance_cast hn, Nat.cast_lt]

/-- What the rule of a doorbell makes of the channel. -/
theorem Channel.answerDoorbell_eq (h k : Channel) (r : Ring) (v : Word32) :
    (match r.doorbellRefusal v with
      | some reason => h.rejectDoorbell reason
      | none => k) =
    if r.size ≤ v.toNat then { h with reason := .producerOutOfRange, doorbellOut := true }
    else if ((v.toNat : Int) - r.consumer) % r.size < ((r.fetch : Int) - r.consumer) % r.size then
      { h with reason := .producerBehindFetch, doorbellOut := true }
    else k := by
  rw [Ring.doorbellRefusal_eq]
  by_cases hv : r.size ≤ v.toNat
  · simp only [if_pos hv]; rfl
  · by_cases hf : ((v.toNat : Int) - r.consumer) % r.size < ((r.fetch : Int) - r.consumer) % r.size
    · simp only [if_neg hv, if_pos hf]; rfl
    · simp only [if_neg hv, if_neg hf]

/-- An accepted expedite doorbell claims an automatic park where the channel is not held (R120). -/
theorem Channel.expediteRung_eq (h : Channel) (p : Nat) :
    (let k := { h with expedite := { h.expedite with producer := p } }
     if k.held then k else k.claimLatched) =
    if (h.state = .running ∨ h.state = .waiting) ∧ h.claim = none ∧ p ≠ h.expedite.fetch ∧ h.csbAddress ≠ 0 ∧
        h.heldQuiesce = false ∧ h.heldFatal = false then
      { h with expedite := { h.expedite with producer := p }, claim := some .automatic }
    else { h with expedite := { h.expedite with producer := p } } := by
  simp only [Channel.held, Channel.claimLatched, Channel.expediteLatched, Ring.untaken]
  cases hq : h.heldQuiesce <;> cases hf : h.heldFatal <;>
    simp [and_assoc]

/-- Settles O22. -/
theorem doorbells : Obligations.Doorbells := by
  intro s c v ha h refused
  constructor
  · rw [exec_ringProducer, execRingProducer, State.regWriteSettle_modCh (f := (·.writeProducer v)) ha (fun _ => rfl)
      (Channel.answerDoorbell_eq h _ h.normal v)]
  · rw [exec_expediteProducer, execExpediteProducer, State.regWriteSettle_modCh (f := (·.writeExpediteProducer v)) ha
      (fun _ => rfl) (Channel.answerDoorbell_eq h _ h.expedite v), Channel.expediteRung_eq]

end Sys2Proof.Machine
end

section
/-! PROOF. Commands written to Channel Command (R27 to R29, R133, R163): refused, deferred, or accepted.  One equation per
way in which a command is judged, and then ENABLE and DISABLE. -/
namespace Sys2Proof.Machine
variable {s : State} {c : Chan}

/-! ### How a command is judged -/

/-- A command that ends as a change of one channel alone. -/
theorem State.settleClose_of_setCh {u : State} {h : Channel} (hu : u = s.begin.wakeDoze.setCh c h) :
    (u.send .regDone).settleClose = (s.acknowledged.setCh c h).settleClose := by
  rw [hu, State.setCh_send]

/-- A doorbell latched in any state but Running and Waiting claims no park (R120). -/
theorem Channel.claimLatched_of_idle {h : Channel} (hr : h.state ≠ .running) (hw : h.state ≠ .waiting) :
    h.claimLatched = h := by
  simp [Channel.claimLatched, hr, hw]

/-- A command that is rejected at once: only the last rejection reason changes (R27). -/
theorem State.commandWrite_rejected (hp : s.device.power = .active ∨ s.device.power = .doze) {cmd : ChanCmd} {r : Reason}
    (hj : ∀ u : State, u.engine = s.engine → u.ch c = s.ch c → u.judge c cmd = u.reject c r) :
    s.commandWrite c cmd = (s.acknowledged.setCh c { s.ch c with reason := r }).settleClose := by
  rw [State.commandWrite_judged hp]
  refine State.settleClose_of_setCh ?_
  have hj' := hj s.begin.wakeDoze rfl rfl
  by_cases hs : (s.ch c).state = .faulted
  · rw [State.judgeNow_faulted (by exact hs), hj', State.modCh, State.reject, State.modCh, State.ch_setCh_same,
      Channel.claimLatched_of_idle (by simp [hs]) (by simp [hs]), State.setCh_setCh]
    rfl
  · rw [State.judgeNow_eq (by exact hs), hj']
    rfl

/-- A command to a channel in Error (R27). -/
theorem State.commandWrite_inError (hp : s.device.power = .active ∨ s.device.power = .doze)
    (hf : s.engine.fatal = false) (he : (s.ch c).state = .error) {cmd : ChanCmd} (hr : cmd ≠ .reset) :
    s.commandWrite c cmd = (s.acknowledged.setCh c { s.ch c with reason := .channelInError }).settleClose :=
  State.commandWrite_rejected hp fun u hu hc => by
    rw [State.judge_eq (hu ▸ hf) c hr, hc, if_pos he]

/-- A command that its own rule rejects (R28, R29, R102, R114, R117). -/
theorem State.commandWrite_refused (hp : s.device.power = .active ∨ s.device.power = .doze)
    (hf : s.engine.fatal = false) (he : (s.ch c).state ≠ .error) {cmd : ChanCmd} (hr : cmd ≠ .reset) {r : Reason}
    (h : (s.ch c).refusal cmd = some r) :
    s.commandWrite c cmd = (s.acknowledged.setCh c { s.ch c with reason := r }).settleClose :=
  State.commandWrite_rejected hp fun u hu hc => by
    rw [State.judge_eq (hu ▸ hf) c hr, hc, if_neg he, h]

/-- A command that is accepted in a channel state other than Faulted (R27). -/
theorem State.commandWrite_accepted (hp : s.device.power = .active ∨ s.device.power = .doze)
    (hf : s.engine.fatal = false) (he : (s.ch c).state ≠ .error) (hn : (s.ch c).state ≠ .faulted) {cmd : ChanCmd}
    (hr : cmd ≠ .reset) (h : (s.ch c).refusal cmd = none) :
    s.commandWrite c cmd = ((s.begin.wakeDoze.accept c cmd).send .regDone).settleClose := by
  rw [State.commandWrite_judged hp, State.judgeNow_eq (by exact hn), State.judge_eq (by exact hf) c hr]
  simp only [State.wakeDoze_ch, State.begin_ch, he, if_false, h]

/-- A command that is accepted in Faulted: the doorbell that is latched there then claims its park (R124; log 42). -/
theorem State.commandWrite_resumed (hp : s.device.power = .active ∨ s.device.power = .doze)
    (hf : s.engine.fatal = false) (hn : (s.ch c).state = .faulted) {cmd : ChanCmd} (hr : cmd ≠ .reset)
    (h : (s.ch c).refusal cmd = none) :
    s.commandWrite c cmd =
      (((s.begin.wakeDoze.accept c cmd).modCh c Channel.claimLatched).send .regDone).settleClose := by
  rw [State.commandWrite_judged hp, State.judgeNow_faulted (by exact hn), State.judge_eq (by exact hf) c hr]
  simp only [State.wakeDoze_ch, State.begin_ch, hn, reduceCtorEq, if_false, h]

/-- Two changes of one channel in turn. -/
theorem State.modCh_modCh (s : State) (c : Chan) (f g : Channel → Channel) :
    (s.modCh c f).modCh c g = s.setCh c (g (f (s.ch c))) := by
  simp [State.modCh]

/-! ### Commands refused or deferred -/

/-- A command while the device is Fatal (R133). -/
theorem State.commandWrite_fatal (ha : s.asleep = false) (hf : s.engine.fatal = true) {cmd : ChanCmd} (hr : cmd ≠ .reset) :
    s.commandWrite c cmd = (s.acknowledged.setCh c { s.ch c with reason := .deviceFatal }).settleClose := by
  have hf' : s.begin.wakeDoze.engine.fatal = true := hf
  have hj : s.begin.wakeDoze.judge c cmd = s.begin.wakeDoze.reject c .deviceFatal := by
    simp [State.judge, hr, hf]
  rw [State.commandWrite_awake ha]
  refine State.settleClose_of_setCh ?_
  rw [State.command, hf', Bool.or_true, Bool.true_or, if_pos rfl]
  by_cases hs : (s.ch c).state = .faulted
  · rw [State.judgeNow_faulted (by exact hs), hj, State.reject, State.modCh_modCh]
    exact congrArg _ (Channel.claimLatched_of_idle (by simp [hs]) (by simp [hs]))
  · rw [State.judgeNow_eq (by exact hs), hj]
    rfl

/-- A command while the device is quiesced or on its way there (R163). -/
theorem State.commandWrite_deferred
    (hp : s.device.power = .quiescing ∨ s.device.power = .quiesced ∨ s.device.power = .dormantEntry)
    (hf : s.engine.fatal = false) {cmd : ChanCmd} (hr : cmd ≠ .reset) :
    s.commandWrite c cmd = (s.acknowledged.setCh c
      (if (s.ch c).deferred.length < 4 then { s.ch c with deferred := (s.ch c).deferred ++ [cmd] }
       else { s.ch c with reason := .deferredFull })).settleClose := by
  have ha : s.asleep = false := by rcases hp with h | h | h <;> simp [State.asleep, h]
  have hd : s.begin.wakeDoze.device.power.defers = true := by
    rw [State.begin_wakeDoze]; rcases hp with h | h | h <;> simp [Device.touched, h, PowerState.defers]
  have hr' : (cmd == .reset) = false := by simpa using hr
  have hf' : s.begin.wakeDoze.engine.fatal = false := hf
  rw [State.commandWrite_awake ha]
  refine State.settleClose_of_setCh ?_
  rw [State.command, hr', hf', hd]
  by_cases hl : (s.ch c).deferred.length < 4
  · simp only [Bool.not_true, Bool.or_self, Bool.false_eq_true, if_false, if_pos hl]
    exact if_pos hl
  · simp only [Bool.not_true, Bool.or_self, Bool.false_eq_true, if_false, if_neg hl]
    exact if_neg hl

/-- A number from 1 to 9 names a command (R178). -/
theorem ChanCmd.ofCode_eq_none {v : Word32} (h : v.toNat = 0 ∨ 9 < v.toNat) : ChanCmd.ofCode v = none := by
  unfold ChanCmd.ofCode
  split
  case h_10 => rfl
  all_goals omega

/-- The register at the offset of the Channel Command register of a channel (R178). -/
theorem Reg.ofOffset_command (c : Chan) :
    Reg.ofOffset (BitVec.ofNat 12 (0x804 + 0x100 * c.val)) = some (.chan c .command) := by
  fin_cases c <;> rfl

/-- Settles O40. -/
theorem commandsRefusedOrDeferred : Obligations.CommandsRefusedOrDeferred := by
  intro s c v ha h becomes
  refine ⟨fun hv => ?_, fun p hp => ?_⟩
  · rw [exec_registerWrite, execRegisterWrite, Reg.ofOffset_command, State.offer_awake ha]
    refine congrArg Host.Outcome.next (State.settleClose_of_setCh ?_)
    show State.writeCommand _ c v = _
    rw [State.writeCommand, ChanCmd.ofCode_eq_none hv]
    rfl
  · have hcmd : exec p.1 s = .next (s.commandWrite c p.2) ∧ p.2 ≠ .reset := by
      simp only [List.mem_cons, List.not_mem_nil, or_false] at hp
      rcases hp with rfl | rfl | rfl | rfl | rfl | rfl | rfl | rfl <;> exact ⟨rfl, by simp⟩
    obtain ⟨hexec, hr⟩ := hcmd
    rw [hexec]
    refine ⟨fun hf => ?_, fun hf hp => ?_, fun hf hp he => ?_⟩
    · rw [State.commandWrite_fatal ha hf hr]
    · rw [State.commandWrite_deferred hp hf hr]
    · rw [State.commandWrite_inError hp hf he hr]

/-! ### ENABLE and DISABLE -/

/-- The rule of ENABLE (R28). -/
theorem Channel.refusal_enable (h : Channel) : h.refusal .enable =
    if h.state ≠ .disabled then some .alreadyEnabled
    else if h.resetDraining then some .resetInProgress
    else if h.normal.size = 0 then some .ringNotConfigured
    else none := by
  simp only [Channel.refusal, bne_iff_ne]

/-- The effect of an accepted ENABLE (R28). -/
theorem State.accept_enable (s : State) (c : Chan) :
    s.accept c .enable = s.setCh c { s.ch c with reason := .none, state := .idle } := by
  simp only [State.accept, State.modCh_modCh]

/-- The effect of an accepted DISABLE (R29). -/
theorem State.accept_disable (s : State) (c : Chan) :
    s.accept c .disable = s.setCh c ({ s.ch c with reason := .none } : Channel).disabled := by
  simp only [State.accept, State.modCh_modCh]

/-- Settles O35: every channel state in its turn. -/
theorem enableAndDisable : Obligations.EnableAndDisable := by
  intro s c hp hf h answer kept
  have hrefused {cmd : ChanCmd} {r : Reason} (he : h.state ≠ .error) (hr : cmd ≠ .reset) (hc : h.refusal cmd = some r) :
      s.commandWrite c cmd = (s.acknowledged.setCh c { h with reason := r }).settleClose :=
    State.commandWrite_refused hp hf he hr hc
  have hdisabled (he : h.state ≠ .error) (hn : h.state ≠ .faulted) (hc : h.refusal .disable = none) :
      s.commandWrite c .disable =
        (s.acknowledged.setCh c ({ h with reason := .none } : Channel).disabled).settleClose := by
    rw [State.commandWrite_accepted hp hf he hn (by simp) hc]
    exact State.settleClose_of_setCh (State.accept_disable ..)
  constructor
  · refine congrArg Host.Outcome.next ?_
    split
    · next he => exact State.commandWrite_inError hp hf he (by simp)
    next he =>
    split
    · next hs => exact hrefused he (by simp) (by rw [Channel.refusal_enable, if_pos hs])
    next hs =>
    split
    · next hd => exact hrefused he (by simp) (by rw [Channel.refusal_enable, if_neg hs, if_pos hd])
    next hd =>
    split
    · next hz => exact hrefused he (by simp) (by rw [Channel.refusal_enable, if_neg hs, if_neg hd, if_pos hz])
    next hz =>
    have hc : h.refusal .enable = none := by rw [Channel.refusal_enable, if_neg hs, if_neg hd, if_neg hz]
    have hn : h.state ≠ .faulted := by simp [not_not.1 hs]
    rw [State.commandWrite_accepted hp hf he hn (by simp) hc]
    exact State.settleClose_of_setCh (State.accept_enable ..)
  · refine congrArg Host.Outcome.next ?_
    have hquiet (hs : h.state ≠ .error ∧ h.state ≠ .faulted ∧ h.refusal .disable = none) {k : Channel}
        (hk : ({ h with reason := .none } : Channel).disabled = k) :
        s.commandWrite c .disable = (s.acknowledged.setCh c k).settleClose := by
      obtain ⟨he, hn, hc⟩ := hs
      rw [hdisabled he hn hc, hk]
    split
    · next hs => exact hquiet (by simp [Channel.refusal, hs]) (by simp only [Channel.disabled, hs])
    · next hs => exact hquiet (by simp [Channel.refusal, hs]) (by simp only [Channel.disabled, hs])
    · next hs => exact hquiet (by simp [Channel.refusal, hs]) (by simp only [Channel.disabled, hs, kept, beq_iff_eq])
    · next hs =>
      split
      · next hc =>
        have hsome : h.claim.isSome = true := by simpa [Option.isSome_iff_ne_none] using hc
        exact hrefused (by simp [hs]) (by simp) (by simp [Channel.refusal, hs, hsome])
      · next hc =>
        have hnone : h.claim = none := by simpa using hc
        exact hquiet (by simp [Channel.refusal, hs, hnone]) (by simp [Channel.disabled, hs, hnone])
    · next hs => exact hquiet (by simp [Channel.refusal, hs]) (by simp only [Channel.disabled, hs, kept, beq_iff_eq])
    case h_11 hs => exact State.commandWrite_inError hp hf hs (by simp)
    all_goals
      next hs => exact hrefused (by simp [hs]) (by simp) (by simp only [Channel.refusal, hs])

end Sys2Proof.Machine
end

section
/-! PROOF. What a channel gives up (R31, R96, R109): its beat with the pins, its waiting requests, and the outcome of those
that hold a tag.  Stated once as the frame `State.GaveUp`, and composed from the release of the grant and the withdrawal of
requests. -/
namespace Sys2Proof.Machine
variable {s u : State} {c : Chan}

/-! ### Lines after a change of some of them in turn -/

/-- A change made to the lines of several items in turn reaches the lines that one of the items names. -/
theorem Cache.line_foldl_modLine {α : Type} (number : α → Nat) (f : CacheLine → CacheLine) (hf : ∀ l, f (f l) = f l)
    (n : Nat) : ∀ (xs : List α) (k : Cache), (xs.foldl (fun k x => k.modLine (number x) f) k).line n =
      (k.line n).map fun l => if xs.any fun x => number x == n then f l else l
  | [], k => by simp
  | x :: xs, k => by
    rw [List.foldl_cons, Cache.line_foldl_modLine number f hf n xs, Cache.line_modLine, List.any_cons]
    by_cases hx : n = number x
    · rw [if_pos hx]
      subst hx
      cases k.line (number x) with
      | none => rfl
      | some l =>
        simp only [Option.map_some, beq_self_eq_true, Bool.true_or, if_true, Option.some.injEq]
        split
        · exact hf l
        · rfl
    · have hx' : (number x == n) = false := by simpa using fun e => hx e.symm
      rw [if_neg hx, hx', Bool.false_or]

/-- A change of the cache that keeps everything but its sets, and in these the order of use. -/
structure Cache.OnlyLines (k k' : Cache) : Prop where
  rest : k' = { k with sets := k'.sets }
  lru : ∀ i, (k'.set i).lru = (k.set i).lru

theorem Cache.OnlyLines.refl (k : Cache) : k.OnlyLines k := ⟨rfl, fun _ => rfl⟩

theorem Cache.OnlyLines.trans {k k' k'' : Cache} (h : k.OnlyLines k') (h' : k'.OnlyLines k'') : k.OnlyLines k'' :=
  ⟨by rw [h'.rest, h.rest], fun i => (h'.lru i).trans (h.lru i)⟩

theorem Cache.modLine_onlyLines (k : Cache) (n : Nat) (f : CacheLine → CacheLine) : k.OnlyLines (k.modLine n f) :=
  ⟨k.modLine_rest n f, k.modLine_lru n f⟩

theorem Cache.foldl_onlyLines {α : Type} {g : Cache → α → Cache} (hg : ∀ (k : Cache) x, k.OnlyLines (g k x)) :
    ∀ (xs : List α) (k : Cache), k.OnlyLines (xs.foldl g k)
  | [], k => .refl k
  | x :: xs, k => (hg k x).trans (Cache.foldl_onlyLines hg xs _)

/-! ### Pins -/

/-- The lines of a beat lose their pins (R141). -/
theorem State.releasePins_line (s : State) (b : Beat) (n : Nat) : (s.releasePins b).cache.line n =
    (s.cache.line n).map fun l => { l with pinned := l.pinned && !b.acqs.any fun q => q.line == n } := by
  have h := Cache.line_foldl_modLine Acq.line (fun l => { l with pinned := false }) (fun _ => rfl) n b.acqs s.cache
  refine h.trans (congrArg (Option.map · _) (funext fun l => ?_))
  cases b.acqs.any fun q => q.line == n <;> simp

theorem State.releasePins_onlyLines (s : State) (b : Beat) : s.cache.OnlyLines (s.releasePins b).cache :=
  Cache.foldl_onlyLines (fun k _ => k.modLine_onlyLines ..) _ _

/-! ### Requests that are withdrawn -/

/-- A fill of line `n`. -/
def Req.fills (r : Req) (n : Nat) : Bool := (r.kind == .fetchShared || r.kind == .fetchOwned) && r.address / 64 == n

theorem Cache.unmarkFill_line (k : Cache) (r : Req) (n : Nat) : (k.unmarkFill r).line n =
    (k.line n).map fun l => { l with fill := l.fill && !r.fills n } := by
  have hmark : (k.modLine (r.address / 64) fun l => { l with fill := false }).line n =
      (k.line n).map fun l => { l with fill := l.fill && !(r.address / 64 == n) } := by
    rw [Cache.line_modLine]
    by_cases hn : n = r.address / 64
    · simp [hn]
    · have hn' : (r.address / 64 == n) = false := by simpa using fun e => hn e.symm
      simp [hn, hn']
  unfold Cache.unmarkFill Req.fills
  cases r.kind with
  | fetchShared | fetchOwned => simpa using hmark
  | upgrade | writeLine | readDirect | writePartial =>
    have hkeep : (k.line n).map (fun l => { l with fill := l.fill && !false }) = k.line n := by simp
    exact hkeep.symm

theorem Cache.foldl_unmarkFill_line (n : Nat) : ∀ (rs : List Req) (k : Cache), (rs.foldl Cache.unmarkFill k).line n =
    (k.line n).map fun l => { l with fill := l.fill && !rs.any fun r => r.fills n }
  | [], k => by simp
  | r :: rs, k => by
    rw [List.foldl_cons, Cache.foldl_unmarkFill_line n rs, Cache.unmarkFill_line, Option.map_map, List.any_cons]
    congr 1
    funext l
    simp [Bool.and_assoc]

theorem Cache.unmarkFill_onlyLines (k : Cache) (r : Req) : k.OnlyLines (k.unmarkFill r) := by
  unfold Cache.unmarkFill
  split
  · exact k.modLine_onlyLines ..
  · exact k.modLine_onlyLines ..
  all_goals exact .refl k

/-- A request that no longer counts for its channel where `p` picks it. -/
def Req.orphaned (p : Req → Bool) (r : Req) : Req := { r with orphan := r.orphan || p r }

theorem orphaned_eq (p : Req → Bool) (r : Req) : (if p r then { r with orphan := true } else r) = r.orphaned p := by
  unfold Req.orphaned
  cases p r <;> simp

/-! ### Requests given up -/

section GiveUp
variable (s : State) (p : Req → Bool)

theorem State.orphan_rest : s.orphan p = { s with link := (s.orphan p).link } := by simp only [State.orphan]

theorem State.giveUp_rest :
    s.giveUp p = { s with cache := (s.giveUp p).cache, link := (s.giveUp p).link } := by
  rw [State.giveUp, State.orphan_rest, State.withdraw_eq]

theorem State.giveUp_cache : (s.giveUp p).cache = (s.link.waiting.filter p).foldl Cache.unmarkFill s.cache := by
  rw [State.giveUp, State.orphan_rest, State.withdraw_eq]

/-- The requests that still wait are those that `p` does not pick. -/
theorem State.giveUp_waiting : (s.giveUp p).link.waiting = s.link.waiting.filter fun r => !p r := by
  have hkeep : ∀ r ∈ s.link.waiting.filter fun r => !p r, (if p r then { r with orphan := true } else r) = r := by
    intro r hr
    have hp : p r = false := by simpa using (List.mem_filter.1 hr).2
    rw [hp]
    rfl
  simp only [State.giveUp, State.orphan, State.withdraw_eq, (Link.mapOutstanding_rest _ _).1]
  exact (List.map_congr_left hkeep).trans (List.map_id _)

/-- The requests that hold a tag lose their outcome where `p` picks them. -/
theorem State.giveUp_tag (t : TagId) : (s.giveUp p).link.tag t =
    { s.link.tag t with record := (s.link.tag t).record.map fun x => { x with req := x.req.orphaned p } } := by
  have hf : (fun r => if p r then { r with orphan := true } else r) = Req.orphaned p := funext (orphaned_eq p)
  have ht (l : Link) (ws : List Req) : ({ l with waiting := ws } : Link).tag t = l.tag t := rfl
  simp only [State.giveUp, State.orphan, State.withdraw_eq, hf, ht, Link.mapOutstanding_tag]

theorem State.giveUp_link : (s.giveUp p).link =
    { s.link with tags := (s.giveUp p).link.tags, waiting := (s.giveUp p).link.waiting } := by
  obtain ⟨-, hr, hl⟩ := Link.mapOutstanding_rest { s.link with waiting := s.link.waiting.filter fun r => !p r }
    fun r => if p r then { r with orphan := true } else r
  simp only [State.giveUp, State.orphan, State.withdraw_eq, hr, hl]

end GiveUp

/-! ### The frame -/

/-- The grant is released where the channel holds it, and with it the pins of its beat (R32, R141). -/
theorem State.releaseGrant_eq (s : State) (c : Chan) : s.releaseGrant c = { s with
    beat := if s.granted c then none else s.beat
    cache := (s.releaseGrant c).cache } := by
  unfold State.releaseGrant State.granted
  cases hb : s.beat with
  | none => simp only [Bool.false_eq_true, if_false, ← hb]
  | some b =>
    cases hc : b.chan == c with
    | false => simp only [hc, Bool.false_eq_true, if_false, ← hb]
    | true => simp only [hc, if_true]; rfl

theorem State.releaseGrant_line (s : State) (c : Chan) (n : Nat) : (s.releaseGrant c).cache.line n =
    (s.cache.line n).map fun l => { l with
      pinned := l.pinned && !(s.granted c && s.beat.any fun b => b.acqs.any fun q => q.line == n) } := by
  unfold State.releaseGrant State.granted
  cases s.beat with
  | none => simp
  | some b =>
    cases hc : b.chan == c with
    | false => simp [hc]
    | true => simpa [hc] using s.releasePins_line b n

theorem State.releaseGrant_onlyLines (s : State) (c : Chan) : s.cache.OnlyLines (s.releaseGrant c).cache := by
  unfold State.releaseGrant
  split
  · split
    · exact s.releasePins_onlyLines _
    · exact .refl _
  · exact .refl _

/-- The release of the grant gives up no request. -/
theorem State.releaseGrant_gaveUp (s : State) (c : Chan) : s.GaveUp (s.releaseGrant c) c fun _ => false where
  beat := by rw [State.releaseGrant_eq]
  waiting := by rw [State.releaseGrant_eq]; simp
  tags t := by rw [State.releaseGrant_eq]; simp
  link := by rw [State.releaseGrant_eq]
  lines n := by
    have hnone : (s.link.waiting.any fun r =>
        false && (r.kind == .fetchShared || r.kind == .fetchOwned) && r.address / 64 == n) = false :=
      List.any_eq_false.2 fun _ _ => by simp
    rw [State.releaseGrant_line, hnone]
    simp
  lru := (s.releaseGrant_onlyLines c).lru
  cache := by rw [(s.releaseGrant_onlyLines c).rest]

theorem any_or {α : Type} (f g : α → Bool) : ∀ xs : List α, (xs.any fun x => f x || g x) = (xs.any f || xs.any g)
  | [] => rfl
  | x :: xs => by
    rw [List.any_cons, List.any_cons, List.any_cons, any_or f g xs]
    cases f x <;> cases g x <;> simp

/-- What is given up twice is given up by the first or the second. -/
theorem or_orphaned {m p m' : Req → Bool} (hm : ∀ q : Req, (m q || p (q.orphaned m)) = m' q) (q : Req) :
    m' q = (m q || (!m q && p q)) := by
  rw [← hm q]
  cases hq : m q with
  | false => simp [Req.orphaned, hq]
  | true => simp

/-- A channel that has given up `m` gives up `p` as well. -/
theorem State.GaveUp.giveUp {m p m' : Req → Bool} (h : s.GaveUp u c m)
    (hm : ∀ q : Req, (m q || p (q.orphaned m)) = m' q) : s.GaveUp (u.giveUp p) c m' where
  beat := by rw [State.giveUp_rest]; exact h.beat
  waiting := by
    rw [State.giveUp_waiting, h.waiting, List.filter_filter]
    refine List.filter_congr fun q _ => ?_
    rw [or_orphaned hm q]
    cases m q <;> simp
  tags t := by
    rw [State.giveUp_tag, h.tags]
    simp only [Option.map_map, Function.comp_def, Req.orphaned, ← hm, Bool.or_assoc]
  link := by rw [State.giveUp_link, h.link]
  lines n := by
    rw [State.giveUp_cache, Cache.foldl_unmarkFill_line, h.lines, Option.map_map, h.waiting]
    have hany : (s.link.waiting.any fun r =>
          m' r && (r.kind == .fetchShared || r.kind == .fetchOwned) && r.address / 64 == n) =
        ((s.link.waiting.any fun r =>
            m r && (r.kind == .fetchShared || r.kind == .fetchOwned) && r.address / 64 == n) ||
          ((s.link.waiting.filter fun r => !m r).filter p).any fun r => r.fills n) := by
      rw [List.filter_filter, List.any_filter, ← any_or]
      refine congrArg s.link.waiting.any (funext fun r => ?_)
      rw [or_orphaned hm r, Req.fills]
      cases m r <;> cases p r <;> simp
    rw [hany]
    refine congrArg (Option.map · _) (funext fun l => ?_)
    simp only [Function.comp_apply, Bool.not_or, Bool.and_assoc]
  lru i := by
    rw [State.giveUp_cache, (Cache.foldl_onlyLines Cache.unmarkFill_onlyLines _ _).lru]
    exact h.lru i
  cache := by
    rw [State.giveUp_cache, (Cache.foldl_onlyLines Cache.unmarkFill_onlyLines _ _).rest, h.cache]

end Sys2Proof.Machine
end

section
/-! PROOF. A beat that is discarded and requests that are given up together (R31, R96, R109), and Channel Reset (R31, R173,
R174), which is the first use of both. -/
namespace Sys2Proof.Machine
variable {s u v : State} {c : Chan} {m : Req → Bool}

/-- The frame looks at beat, link and cache alone, and not at the sweep queue. -/
theorem State.GaveUp.of_same (h : s.GaveUp u c m) (hb : v.beat = u.beat) (hl : v.link = u.link)
    (hk : v.cache = { u.cache with queue := v.cache.queue }) : s.GaveUp v c m where
  beat := hb.trans h.beat
  waiting := by rw [hl, h.waiting]
  tags := by rw [hl]; exact h.tags
  link := by rw [hl]; exact h.link
  lines n := by rw [hk]; exact h.lines n
  lru i := by rw [hk]; exact h.lru i
  cache := by rw [hk, h.cache]

/-- The outstanding requests after the channel has given some up. -/
theorem State.GaveUp.outstanding (h : s.GaveUp u c m) :
    u.link.outstanding = s.link.outstanding.map (Req.orphaned m) := by
  unfold Link.outstanding
  rw [List.map_filterMap]
  refine List.filterMap_congr fun t _ => ?_
  rw [h.tags]
  simp only [Option.map_map]
  rfl

theorem State.releaseGrant_of_not_granted (h : s.granted c = false) : s.releaseGrant c = s := by
  unfold State.granted at h
  unfold State.releaseGrant
  split
  · next b hb => simp only [hb] at h; rw [h]; rfl
  · rfl

/-- The requests of the channel's beat. -/
def Req.ofBeat (c : Chan) (r : Req) : Bool := r.isOf c && r.isBeatRead

theorem State.discardBeat_eq (s : State) (c : Chan) :
    s.discardBeat c = if s.granted c then (s.releaseGrant c).giveUp (Req.ofBeat c) else s := by
  unfold State.discardBeat State.granted
  split <;> rfl

/-- A beat in progress is discarded uncommitted (R31, R96, R109). -/
theorem State.discardBeat_gaveUp (s : State) (c : Chan) :
    s.GaveUp (s.discardBeat c) c fun q => s.granted c && q.ofBeat c := by
  rw [State.discardBeat_eq]
  cases hg : s.granted c with
  | true => exact (s.releaseGrant_gaveUp c).giveUp fun q => by simp [Req.orphaned]
  | false =>
    have h := s.releaseGrant_gaveUp c
    rw [State.releaseGrant_of_not_granted hg] at h
    simpa using h

/-- Nothing but the beat, the requests and the lines changes. -/
theorem State.discardBeat_rest (s : State) (c : Chan) : s.discardBeat c =
    { s with beat := (s.discardBeat c).beat, cache := (s.discardBeat c).cache, link := (s.discardBeat c).link } := by
  rw [State.discardBeat_eq]
  split
  · rw [State.giveUp_rest, State.releaseGrant_eq]
  · rfl

theorem State.discardBeat_onlyLines (s : State) (c : Chan) : s.cache.OnlyLines (s.discardBeat c).cache := by
  rw [State.discardBeat_eq]
  split
  · rw [State.giveUp_cache]
    exact (s.releaseGrant_onlyLines c).trans (Cache.foldl_onlyLines Cache.unmarkFill_onlyLines _ _)
  · exact .refl _

/-- A channel that discards its beat and gives up all the requests that `p` picks. -/
def State.abandonAll (s : State) (c : Chan) (p : Req → Bool) : State := (s.discardBeat c).giveUp p

/-- The requests of the beat are among those that the channel gives up. -/
theorem State.abandonAll_gaveUp (s : State) (c : Chan) {p : Req → Bool} (hp : ∀ q : Req, q.ofBeat c = true → p q = true) :
    s.GaveUp (s.abandonAll c p) c p := by
  refine (s.discardBeat_gaveUp c).giveUp fun q => ?_
  cases hg : s.granted c && q.ofBeat c with
  | true => rw [hp q (Bool.and_eq_true_iff.1 hg).2, Bool.true_or]
  | false => simp [Req.orphaned, hg]

theorem State.abandonAll_rest (s : State) (c : Chan) (p : Req → Bool) : s.abandonAll c p = { s with
    beat := (s.abandonAll c p).beat, cache := (s.abandonAll c p).cache, link := (s.abandonAll c p).link } := by
  rw [State.abandonAll, State.giveUp_rest, State.discardBeat_rest]

theorem State.abandonAll_queue (s : State) (c : Chan) (p : Req → Bool) :
    (s.abandonAll c p).cache.queue = s.cache.queue := by
  rw [State.abandonAll, State.giveUp_cache,
    ((s.discardBeat_onlyLines c).trans (Cache.foldl_onlyLines Cache.unmarkFill_onlyLines _ _)).rest]

/-! ### Channel Reset -/

/-- The requests that a Channel Reset gives up (R31). -/
def Req.lostByReset (c : Chan) (r : Req) : Bool := r.owner == .channel c && !r.isPrefetch

theorem Req.isPrefetch_eq (r : Req) : (!r.isPrefetch) = (r.purpose != .prefetch) := rfl

theorem Req.lostByReset_of_ofBeat {q : Req} (h : q.ofBeat c = true) : q.lostByReset c = true := by
  simp only [Req.ofBeat, Req.isOf, Req.isBeatRead, Bool.and_eq_true] at h
  obtain ⟨⟨ho, -⟩, hr⟩ := h
  rw [Req.lostByReset, ho, Bool.true_and, Req.isPrefetch_eq, bne_iff_ne]
  rintro e
  rw [e] at hr
  cases hr

/-- A channel that has been reset drains exactly while a data request of it is outstanding (R31). -/
theorem State.GaveUp.drains (h : s.GaveUp u c (Req.lostByReset c)) :
    u.link.drains c = s.link.outstanding.any fun r => r.lostByReset c && r.purpose.usesData := by
  unfold Link.drains Link.requests
  rw [List.any_append, h.outstanding, h.waiting, List.any_map, List.any_filter]
  have hwait : (s.link.waiting.any fun r => !r.lostByReset c &&
      (r.owner == .channel c && r.orphan && r.purpose.usesData && !r.isPrefetch)) = false := by
    refine List.any_eq_false.2 fun r _ => ?_
    simp only [Req.lostByReset]
    cases r.owner == .channel c <;> cases r.isPrefetch <;> simp
  rw [hwait, Bool.or_false]
  refine congrArg s.link.outstanding.any (funext fun r => ?_)
  have hp : (r.orphaned (Req.lostByReset c)).isPrefetch = r.isPrefetch := rfl
  simp only [Function.comp_apply, hp]
  simp only [Req.orphaned, Req.lostByReset]
  cases r.owner == .channel c <;> cases r.isPrefetch <;> cases r.purpose.usesData <;> simp

/-- A Channel Reset gives up the beat and the requests of the channel (R31). -/
theorem State.channelReset_gaveUp (s : State) (c : Chan) : s.GaveUp (s.channelReset c) c (Req.lostByReset c) :=
  (s.abandonAll_gaveUp c fun _ => Req.lostByReset_of_ofBeat).of_same rfl rfl rfl

theorem State.channelReset_ch (s : State) (c : Chan) : (s.channelReset c).ch c = { (s.ch c).afterReset with
    resetDraining := (s.link.outstanding.any fun r => r.lostByReset c && r.purpose.usesData) ||
      ((s.ch c).resetDraining && s.device.softInit) } := by
  have hd := (s.abandonAll_gaveUp c fun _ => Req.lostByReset_of_ofBeat).drains
  have hr := s.abandonAll_rest c (Req.lostByReset c)
  have hc : (s.abandonAll c (Req.lostByReset c)).ch c = s.ch c := by rw [hr]; rfl
  have hs : (s.abandonAll c (Req.lostByReset c)).device = s.device := by rw [hr]
  rw [← hd, ← hc, ← hs]
  exact State.ch_modCh_same ..

theorem State.channelReset_ch_ne (s : State) {c d : Chan} (h : d ≠ c) : (s.channelReset c).ch d = s.ch d := by
  have hc : (s.abandonAll c (Req.lostByReset c)).ch d = s.ch d := by rw [State.abandonAll_rest]; rfl
  exact (State.ch_modCh_ne _ h _).trans hc

/-- The FLUSH request of the channel leaves the sweep queue (R174). -/
theorem State.channelReset_queue (s : State) (c : Chan) :
    (s.channelReset c).cache.queue = s.cache.queue.filter fun q => q.kind != .flush c := by
  rw [← s.abandonAll_queue c (Req.lostByReset c)]
  rfl

theorem State.channelReset_rest (s : State) (c : Chan) : s.channelReset c = { s with
    chans := (s.channelReset c).chans, beat := (s.channelReset c).beat
    link := (s.channelReset c).link, cache := (s.channelReset c).cache } := by
  have h : s.channelReset c = { s.abandonAll c (Req.lostByReset c) with
      chans := (s.channelReset c).chans, cache := (s.channelReset c).cache } := rfl
  rw [h, State.abandonAll_rest]

/-- The frame looks at beat, link and cache alone before, too. -/
theorem State.GaveUp.before {s' : State} (h : s'.GaveUp u c m) (hb : s'.beat = s.beat) (hl : s'.link = s.link)
    (hk : s'.cache = s.cache) : s.GaveUp u c m := by
  obtain ⟨beat, waiting, tags, link, lines, lru, cache⟩ := h
  unfold State.granted at *
  rw [hb] at beat lines
  rw [hl] at waiting tags link lines
  rw [hk] at lines lru cache
  exact ⟨beat, waiting, tags, link, lines, lru, cache⟩

/-- A Channel Reset is accepted in every state of the channel and of the device, and claims no park (R31). -/
theorem State.commandWrite_reset (ha : s.asleep = false) :
    s.commandWrite c .reset =
      (((s.begin.wakeDoze.modCh c fun h => { h with reason := .none }).channelReset c).send .regDone).settleClose := by
  rw [State.commandWrite_awake ha]
  have hj (u : State) : u.judge c .reset = (u.modCh c fun h => { h with reason := .none }).channelReset c := rfl
  refine congrArg (fun u : State => (u.send .regDone).settleClose) ?_
  show s.begin.wakeDoze.judgeNow c .reset = _
  by_cases hs : (s.ch c).state = .faulted
  · rw [State.judgeNow_faulted (by exact hs), hj, State.modCh,
      Channel.claimLatched_of_idle (by simp [State.channelReset_ch, Channel.afterReset, Channel.reset])
        (by simp [State.channelReset_ch, Channel.afterReset, Channel.reset]), State.setCh_ch]
  · rw [State.judgeNow_eq (by exact hs), hj]

/-- Settles O36. -/
theorem channelReset : Obligations.ChannelReset := by
  intro s c ha
  dsimp only
  let v : State := s.begin.wakeDoze.modCh c fun h => { h with reason := .none }
  have hrest := v.channelReset_rest c
  have hdev : v.device = s.device.touched := congrArg State.device s.begin_wakeDoze
  have hmine : (fun r : Req => r.owner == .channel c && r.purpose != .prefetch) = Req.lostByReset c := rfl
  refine ⟨(v.channelReset c).send .regDone, ?_, ?_, fun d hd => ?_, ?_, ?_, ?_⟩
  · rw [exec_reset, execReset, State.commandWrite_reset ha]
  · have h := v.channelReset_ch c
    rw [State.ch_modCh_same, hdev] at h
    exact h
  · exact (v.channelReset_ch_ne hd).trans (State.ch_modCh_ne _ hd _)
  · rw [hmine]
    exact .before (s' := v) ((v.channelReset_gaveUp c).of_same rfl rfl rfl) rfl rfl rfl
  · exact v.channelReset_queue c
  · rw [State.send, hrest, hdev]
    rfl

end Sys2Proof.Machine
end

section
/-! PROOF. What Data and Done do for the owner of a bypass read, a record, a block or event write, and a write-back
(R12, R17, R113, R117, R126, R129, R130, R142, R143). -/
namespace Sys2Proof.Machine
variable {s u : State} {t : TagId} {g : Bool} {r : Req} {c : Chan}

/-! ### A matched response -/

/-- A listed Data or Done that is matched reaches the owner of the ended request (R151, R156). -/
theorem State.arrive_answered (h : s.Awaits t g r) {resp : Response} (ha : r.kind.accepts resp = true)
    (hf : ∀ reason, resp ≠ .fail reason) : s.arrive t g resp = ((s.ended t).answered r resp).settleClose := by
  rw [State.arrive, State.receive_awaits h, State.outcome_answered _ ha hf]

/-- The Data of a bypass read goes to what asked for it. -/
theorem State.arrive_readDirect (h : s.Awaits t g r) (hk : r.kind = .readDirect) (grant : Grant) (bytes : Line) :
    s.arrive t g (.data grant bytes) = ((s.ended t).deliverRead r bytes).settleClose := by
  rw [State.arrive_answered h (by rw [hk]; rfl) (by simp)]
  simp only [State.answered, hk]

/-- The Done of a masked write goes to what asked for it. -/
theorem State.arrive_writePartial (h : s.Awaits t g r) (hk : r.kind = .writePartial) :
    s.arrive t g .done = ((s.ended t).writeDone r).settleClose := by
  rw [State.arrive_answered h (by rw [hk]; rfl) (by simp)]
  simp only [State.answered, hk]

/-- The Done of a write-back empties its entry of the eviction buffer. -/
theorem State.arrive_writeLine (h : s.Awaits t g r) (hk : r.kind = .writeLine) :
    s.arrive t g .done = ((s.ended t).leaveEviction (r.address / 64)).settleClose := by
  rw [State.arrive_answered h (by rw [hk]; rfl) (by simp)]
  simp only [State.answered, hk]

/-! ### The Data of a bypass read -/

theorem State.deliverRead_orphan (ho : r.orphan = true) (bytes : Line) : u.deliverRead r bytes = u := by
  rw [State.deliverRead, if_pos ho]

/-- One Data serves all the reads of one stream in one line (R142; log 8). -/
theorem State.deliverRead_read (ho : r.orphan = false) {st : StreamId} {miss : Bool} (hp : r.purpose = .read st miss)
    (bytes : Line) : u.deliverRead r bytes = { u with
      beat := u.beat.map fun b => { b with accesses := b.accesses.map fun a =>
        if a.state = .onDirect ∧ a.stream = st ∧ a.address / 64 = r.address / 64 then
          { a with state := .got (bytesAt bytes (a.address - r.address) a.size) }
        else a } } := by
  simp only [State.deliverRead, ho, hp, Bool.false_eq_true, if_false, Bool.and_eq_true, beq_iff_eq, and_assoc]
  rfl

theorem State.deliverRead_descriptor (ho : r.orphan = false) (hc : r.owner = .channel c) {upper : Bool}
    (hp : r.purpose = .descriptor upper) {lo hi : FetchHalf} (hf : (u.ch c).phase = .fetching lo hi) (bytes : Line) :
    u.deliverRead r bytes = u.setCh c
      { u.ch c with phase := if upper then .fetching lo (.got bytes) else .fetching (.got bytes) hi } := by
  simp only [State.deliverRead, ho, hp, hc, Bool.false_eq_true, if_false, State.modCh, hf]

theorem State.deliverRead_block (ho : r.orphan = false) (hc : r.owner = .channel c) {i : Nat}
    (hp : r.purpose = .csbRead i) {x : Restore} (hx : (u.ch c).restore = some x) (bytes : Line) :
    u.deliverRead r bytes = u.setCh c { u.ch c with restore := some { x with
      image := putBytes x.image (64 * i) 64 bytes.toNat, missing := x.missing.filter fun j => j != i } } := by
  simp only [State.deliverRead, ho, hp, hc, Bool.false_eq_true, if_false, State.modCh, hx, Option.map_some]

/-- Settles O49. -/
theorem bypassReadData : Obligations.BypassReadData := by
  intro s t g r grant bytes c h hk hc
  have hdata := State.arrive_readDirect h hk grant bytes
  refine ⟨fun ho i hi => ?_, fun st miss ho hp => ?_, fun upper lo hi ho hp hf => ?_, fun i x ho hp hx => ?_⟩
  · rw [State.deliverRead_orphan ho] at hdata
    rw [List.mem_cons, List.mem_cons, List.mem_singleton] at hi
    obtain rfl | rfl | rfl := hi
    · rw [exec_readDirectData, execReadDirectData, hdata]
    · rw [exec_descriptorHalfData, execDescriptorHalfData, hdata]
    · rw [exec_csbReadData, execCsbReadData, hdata]
  · rw [exec_readDirectData, execReadDirectData, hdata, State.deliverRead_read ho hp]
    rfl
  · rw [exec_descriptorHalfData, execDescriptorHalfData, hdata, State.deliverRead_descriptor (u := s.ended t) ho hc hp hf]
    rfl
  · rw [exec_csbReadData, execCsbReadData, hdata, State.deliverRead_block (u := s.ended t) ho hc hp hx]
    rfl

/-! ### The Done of a write -/

/-- The kinds of request that wait for an entry of the eviction buffer to leave (R143). -/
theorem ReqKind.waitsOnEviction_iff (k : ReqKind) :
    k.waitsOnEviction = true ↔ k ∈ [ReqKind.fetchShared, .fetchOwned, .readDirect, .writePartial] := by
  cases k <;> decide

/-- An entry leaves the eviction buffer, and the requests that waited for it keep their order (R143; log 17). -/
theorem State.leaveEviction_eq (u : State) (n : Nat) : u.leaveEviction n = { u with
    cache := { u.cache with evict := u.cache.evict.filter fun x => x.line != n }
    link := { u.link with waiting := u.link.waiting.map fun q =>
      if q.kind ∈ [ReqKind.fetchShared, .fetchOwned, .readDirect, .writePartial] ∧ q.address / 64 = n then
        { q with waited := true }
      else q } } := by
  simp only [State.leaveEviction, Bool.and_eq_true, beq_iff_eq, ReqKind.waitsOnEviction_iff]

/-- Settles O50. -/
theorem writeDones : Obligations.WriteDones := by
  intro s t g r h u e
  refine ⟨fun beat lanes hk hp => ?_, fun hk hp => ?_, fun v hk hp => ?_, fun live hk hp => ?_, fun hk => ?_⟩
  · rw [exec_bypassWriteDone, execBypassWriteDone, State.arrive_writePartial h hk, State.writeDone, hp]
  · rw [exec_csbWriteDone, execCsbWriteDone, State.arrive_writePartial h hk, State.writeDone, hp]
  · rw [exec_completionRecordDone, execCompletionRecordDone, State.arrive_writePartial h hk, State.writeDone, hp]
    cases v <;> rfl
  · rw [exec_eventRecordDone, execEventRecordDone, State.arrive_writePartial h hk, State.writeDone, hp]
    cases live <;> cases r.orphan <;> rfl
  · rw [exec_writelineDone, execWritelineDone, State.arrive_writeLine h hk, State.leaveEviction_eq]
    rfl

end Sys2Proof.Machine
end

section
/-! PROOF. What a failed read does for its owner (R12, R99, R140, R149), and the entry into Error (R109), stated as a frame
that every way into Error can use. -/
namespace Sys2Proof.Machine
variable {s u : State} {t : TagId} {g : Bool} {r : Req} {c : Chan}

/-! ### The entry into Error -/

/-- The requests that a channel gives up as it enters Error (R109; log 19). -/
def Req.lostByError (c : Chan) (r : Req) : Bool := r.isOf c && !r.isPrefetch

/-- The channel as it enters Error (R109). -/
def Channel.inError (h : Channel) (cause : ErrCause) : Channel :=
  { h with state := .error, cause := cause, claim := none, owedAttempt := .none, pendingFault := none, save := none
           restore := none, progressOwed := false }

theorem Req.isPrefetch_of_ofBeat {q : Req} (h : q.ofBeat c = true) : q.isPrefetch = false := by
  rw [Req.ofBeat, Bool.and_eq_true] at h
  cases hp : q.isPrefetch with
  | false => rfl
  | true =>
    rw [Req.isPrefetch, beq_iff_eq] at hp
    have hb := h.2
    simp only [Req.isBeatRead, hp, Bool.false_eq_true] at hb

theorem Req.lostByError_of_ofBeat {q : Req} (h : q.ofBeat c = true) : q.lostByError c = true := by
  rw [Req.lostByError, Req.isPrefetch_of_ofBeat h, (Bool.and_eq_true_iff.1 h).1]
  rfl

section EnterError
variable (h : (u.ch c).state ≠ .error) (cause : ErrCause) (kind : EventKind) (detail : Word64)
include h

theorem State.enterError_eq : u.enterError c cause kind detail =
    ((u.abandonAll c (Req.lostByError c)).modCh c fun k => k.inError cause).post
      (Event.simple kind (some c) (BitVec.ofNat 16 cause.code) detail) := by
  rw [State.enterError, if_neg (by simpa using h)]
  rfl

/-- The entry into Error gives up the beat and the requests of the channel (R109; log 19). -/
theorem State.enterError_gaveUp : u.GaveUp (u.enterError c cause kind detail) c (Req.lostByError c) := by
  rw [State.enterError_eq h]
  exact (u.abandonAll_gaveUp c fun _ => Req.lostByError_of_ofBeat).of_same rfl rfl rfl

theorem State.enterError_ch : (u.enterError c cause kind detail).ch c = (u.ch c).inError cause := by
  have hc : (u.abandonAll c (Req.lostByError c)).ch c = u.ch c := by rw [State.abandonAll_rest]; rfl
  rw [State.enterError_eq h, State.post_ch, State.ch_modCh_same, hc]

theorem State.enterError_ch_ne {d : Chan} (hd : d ≠ c) : (u.enterError c cause kind detail).ch d = u.ch d := by
  have hc : (u.abandonAll c (Req.lostByError c)).ch d = u.ch d := by rw [State.abandonAll_rest]; rfl
  rw [State.enterError_eq h, State.post_ch, State.ch_modCh_ne _ hd, hc]

theorem State.enterError_queue : (u.enterError c cause kind detail).cache.queue = u.cache.queue := by
  rw [State.enterError_eq h, ← u.abandonAll_queue c (Req.lostByError c)]
  rfl

theorem State.enterError_rest : u.enterError c cause kind detail = { u with
    chans := (u.enterError c cause kind detail).chans, beat := (u.enterError c cause kind detail).beat
    link := (u.enterError c cause kind detail).link, cache := (u.enterError c cause kind detail).cache
    place := u.place ++ [.post (Event.simple kind (some c) (BitVec.ofNat 16 cause.code) detail)] } := by
  rw [State.enterError_eq h, State.abandonAll_rest]
  rfl

end EnterError

/-! ### A matched Fail -/

/-- A matched Fail ends its request as failed (R101). -/
theorem State.arrive_failed (h : s.Awaits t g r) (reason : FailReason) :
    s.arrive t g (.fail reason) = ((s.ended t).failed r reason).settleClose := by
  rw [State.arrive, State.receive_awaits h, State.outcome_fail]

theorem State.failed_readDirect (hk : r.kind = .readDirect) (reason : FailReason) :
    u.failed r reason = u.readFailed r reason := by
  simp only [State.failed, hk]

theorem Cache.modLine_prefetchFails (k : Cache) (n : Nat) (f : CacheLine → CacheLine) :
    (k.modLine n f).prefetchFails = k.prefetchFails := by
  rw [Cache.modLine_rest]

/-- A failed fill or Upgrade clears the marker of its line; the reads and the acquisition that issued it fail, and reads
that only waited for it ask again (R149). -/
theorem State.lineFail_eq (u : State) (r : Req) (reason : FailReason) : u.lineFail r reason = { u with
    cache := u.cache.modLine (r.address / 64) fun l =>
      if r.kind = .upgrade then { l with upgrade := false } else { l with fill := false }
    beat := u.beat.map fun b => { b with
      accesses := b.accesses.map fun a =>
        match a.state with
        | .onFill own =>
          if a.address / 64 = r.address / 64 then { a with state := if own then .failed reason else .todo } else a
        | _ => a
      acqs := b.acqs.map fun q =>
        if q.line = r.address / 64 ∧ q.state = .issued then { q with state := .failed reason } else q } } := by
  simp only [State.lineFail, State.failFill, State.modBeat, State.modCache, Bool.and_eq_true, beq_iff_eq] <;>
    rfl

theorem State.failed_fill (hk : r.kind ∈ [ReqKind.fetchShared, .fetchOwned, .upgrade]) (hp : r.purpose ≠ .prefetch)
    (reason : FailReason) : u.failed r reason = u.lineFail r reason := by
  have hp' : r.isPrefetch = false := by simpa [Req.isPrefetch] using hp
  simp only [List.mem_cons, List.not_mem_nil, or_false] at hk
  obtain hk | hk | hk := hk <;> simp only [State.failed, hk, hp', Bool.false_eq_true, if_false]

theorem State.failed_prefetch (hk : r.kind = .fetchShared) (hp : r.purpose = .prefetch) (reason : FailReason) :
    u.failed r reason = u.prefetchFailed r reason := by
  simp only [State.failed, hk, Req.isPrefetch, hp, beq_self_eq_true, if_true]

/-! ### The Fail of a bypass read -/

theorem State.readFailed_orphan (ho : r.orphan = true) (reason : FailReason) : u.readFailed r reason = u := by
  rw [State.readFailed, if_pos ho]

/-- One Fail fails all the reads of one stream in one line (R142; log 8). -/
theorem State.readFailed_read (ho : r.orphan = false) {st : StreamId} {miss : Bool} (hp : r.purpose = .read st miss)
    (reason : FailReason) : u.readFailed r reason = { u with
      beat := u.beat.map fun b => { b with accesses := b.accesses.map fun a =>
        if a.state = .onDirect ∧ a.stream = st ∧ a.address / 64 = r.address / 64 then { a with state := .failed reason }
        else a } } := by
  simp only [State.readFailed, ho, hp, Bool.false_eq_true, if_false, Bool.and_eq_true, beq_iff_eq, and_assoc]
  rfl

theorem State.readFailed_descriptor (ho : r.orphan = false) (hc : r.owner = .channel c) {upper : Bool}
    (hp : r.purpose = .descriptor upper) {lo hi : FetchHalf} (hf : (u.ch c).phase = .fetching lo hi)
    (reason : FailReason) : u.readFailed r reason = u.setCh c
      { u.ch c with phase := if upper then .fetching lo (.failed reason) else .fetching (.failed reason) hi } := by
  simp only [State.readFailed, ho, hp, hc, Bool.false_eq_true, if_false, State.modCh, hf]

theorem State.readFailed_block (ho : r.orphan = false) (hc : r.owner = .channel c) {i : Nat}
    (hp : r.purpose = .csbRead i) {x : Restore} (hx : (u.ch c).restore = some x) (reason : FailReason) :
    u.readFailed r reason = u.enterError c .csbReadFailed .unparkFailed x.address := by
  simp only [State.readFailed, ho, hp, hc, Bool.false_eq_true, if_false, hx, Option.map_some, Option.getD_some]

/-- Settles O51. -/
theorem readFails : Obligations.ReadFails := by
  intro s t g r reason c h hc k n fails u
  have hfail := State.arrive_failed h reason
  have hline : (s.ended t).lineFail r reason = u := State.lineFail_eq ..
  refine ⟨fun hk hp => ?_, fun hk ho i hi => ?_, fun st miss hk hp ho => ?_, fun hk hp => ?_,
    fun upper lo hi hk hp ho hf => ?_, fun i x hk hp ho hx hs => ?_⟩
  · rw [exec_fetchFail, execFetchFail, hfail, State.failed_fill hk hp, hline]
  · rw [State.failed_readDirect hk, State.readFailed_orphan ho] at hfail
    rw [List.mem_cons, List.mem_cons, List.mem_singleton] at hi
    obtain rfl | rfl | rfl := hi
    · rw [exec_fetchFail, execFetchFail, hfail]
    · rw [exec_descriptorFetchFail, execDescriptorFetchFail, hfail]
    · rw [exec_csbReadFail, execCsbReadFail, hfail]
  · rw [exec_fetchFail, execFetchFail, hfail, State.failed_readDirect hk, State.readFailed_read ho hp]
    rfl
  · rw [exec_siblingPrefetchFail, execSiblingPrefetchFail, hfail, State.failed_prefetch hk hp, State.prefetchFailed, hline,
      State.modCache, show u.cache.prefetchFails = s.cache.prefetchFails from Cache.modLine_prefetchFails ..]
    rfl
  · rw [exec_descriptorFetchFail, execDescriptorFetchFail, hfail, State.failed_readDirect hk,
      State.readFailed_descriptor (u := s.ended t) ho hc hp hf]
    rfl
  · have he : ((s.ended t).ch c).state ≠ .error := by
      show k.state ≠ .error
      rw [hs]
      simp
    refine ⟨(s.ended t).enterError c .csbReadFailed .unparkFailed x.address, ?_, State.enterError_ch he .., fun d hd =>
      State.enterError_ch_ne he _ _ _ hd, State.enterError_gaveUp he .., State.enterError_queue he .., ?_⟩
    · rw [exec_csbReadFail, execCsbReadFail, hfail, State.failed_readDirect hk,
        State.readFailed_block (u := s.ended t) ho hc hp hx]
    · rw [State.enterError_rest he]
      rfl

end Sys2Proof.Machine
end

section
/-! PROOF. PARK and UNPARK (R27, R110 to R117, R121), and the stages of a save (R113). -/
namespace Sys2Proof.Machine
variable {s : State} {c : Chan}

/-! ### Requests that become ready together -/

/-- Requests become ready whether the answer of the register write has been sent or not. -/
theorem foldl_ask_send {α : Type} (f : α → Req) (m : Message) : ∀ (xs : List α) (u : State),
    (xs.foldl (fun u x => u.ask (f x)) u).send m = xs.foldl (fun u x => u.ask (f x)) (u.send m)
  | [], _ => rfl
  | x :: xs, u => foldl_ask_send f m xs (u.ask (f x))

/-- A change of the channel that ends in requests of it, answered. -/
theorem State.settleClose_of_asks {u : State} {h : Channel} {α : Type} {f : α → Req} {xs : List α}
    (hu : u = xs.foldl (fun u x => u.ask (f x)) (s.begin.wakeDoze.setCh c h)) :
    (u.send .regDone).settleClose = (xs.foldl (fun u x => u.ask (f x)) (s.acknowledged.setCh c h)).settleClose := by
  rw [hu, foldl_ask_send, State.setCh_send]

/-- A change of the channel that ends in one request of it, answered. -/
theorem State.settleClose_of_ask {u : State} {h : Channel} {r : Req} (hu : u = (s.begin.wakeDoze.setCh c h).ask r) :
    (u.send .regDone).settleClose = ((s.acknowledged.setCh c h).ask r).settleClose :=
  State.settleClose_of_asks (f := fun _ => r) (xs := [()]) hu

/-! ### The stages of a save -/

/-- A write of the save is outstanding or waits (R113). -/
theorem State.saveOutstanding_iff (s : State) (c : Chan) : s.saveOutstanding c = true ↔
    ∃ q ∈ s.link.outstanding ++ s.link.waiting, q.owner = .channel c ∧ q.orphan = false ∧ q.purpose = .csbSave := by
  simp only [State.saveOutstanding, Link.requests, List.any_eq_true, Req.isOf, Bool.and_eq_true, beq_iff_eq,
    Bool.not_eq_true', and_assoc]

section SaveStep
variable {h : Channel} {v : Save} (hv : h.save = some v)
include hv

theorem State.saveStep_busy (hb : s.saveOutstanding c = true) : s.saveStep c h = none := by
  simp only [State.saveStep, hv, hb, if_true]

theorem State.saveStep_next (hb : s.saveOutstanding c = false) (hs : v.stage < 3) :
    s.saveStep c h = some (s.saveStage c { v with stage := v.stage + 1 }) := by
  simp only [State.saveStep, hv, hb, Bool.false_eq_true, if_false, hs, if_true]

theorem State.saveStep_last (hb : s.saveOutstanding c = false) (hs : v.stage = 3) :
    s.saveStep c h = some (s.saveDone c v) := by
  simp only [State.saveStep, hv, hb, Bool.false_eq_true, if_false, hs, Nat.lt_irrefl]

end SaveStep

/-! ### The address of the block -/

/-- The address of the block as the channel uses it (R89, R110). -/
theorem Channel.csbUsed_toNat (h : Channel) :
    h.csbUsed.toNat = if h.compact then h.csbAddress.toNat % 2 ^ 32 else h.csbAddress.toNat := by
  have hlt := h.csbAddress.isLt
  cases hc : h.compact <;> simp only [Channel.csbUsed, reduceAddress, hc, BitVec.toNat_ofNat, if_true, Bool.false_eq_true,
    if_false] <;> omega

theorem Channel.csbUsed_eq (h : Channel) : h.csbUsed =
    BitVec.ofNat 64 (if h.compact then h.csbAddress.toNat % 2 ^ 32 else h.csbAddress.toNat) := by
  rw [← h.csbUsed_toNat, BitVec.ofNat_toNat, BitVec.setWidth_eq]

/-! ### Park -/

section Park
variable (hp : s.device.power = .active ∨ s.device.power = .doze) (hf : s.engine.fatal = false)
include hp hf

/-- Park in a channel state that can take it: rejected without a block address, and accepted otherwise (R114). -/
theorem State.commandWrite_park {u : State} (he : (s.ch c).state ≠ .error) (hn : (s.ch c).state ≠ .faulted)
    (hc : (s.ch c).refusal .park = if (s.ch c).csbAddress == 0 then some .noCsb else none)
    (hu : ((s.begin.wakeDoze.accept c .park).send .regDone).settleClose = u) : s.commandWrite c .park =
      if (s.ch c).csbAddress = 0 then (s.acknowledged.setCh c { s.ch c with reason := .noCsb }).settleClose else u := by
  split
  · next hz => exact State.commandWrite_refused hp hf he (by simp) (by rw [hc, hz]; rfl)
  · next hz =>
    rw [State.commandWrite_accepted hp hf he hn (by simp) (by rw [hc, beq_eq_false_iff_ne.2 hz]; rfl), hu]

end Park

theorem State.accept_park (s : State) (c : Chan) :
    s.accept c .park = (s.modCh c fun h => { h with reason := .none }).acceptPark c := rfl

/-- A save begins with the write that zeroes the first eight bytes of the block (R113). -/
theorem State.beginSave_eq (s : State) (c : Chan) (origin : Origin) : s.beginSave c origin =
    (s.setCh c { s.ch c with
      state := .saving, claim := none, owedAttempt := .none, progressOwed := false
      save := some { origin := origin, stage := 1, address := (s.ch c).csbUsed
                     image := csbEncode (s.ch c) (s.ch c).state origin } }).ask
      { kind := .writePartial, address := (s.ch c).csbUsed.toNat / 64 * 64, span := 64, mask := 0xFF#64, bytes := 0
        owner := .channel c, purpose := .csbSave, orphan := false, waited := false, fresh := true } := by
  simp only [State.beginSave, State.saveStage, State.modCh_modCh]
  rfl

/-- A Park accepted in Idle or Waiting begins a save (R114). -/
theorem State.accept_park_saves (hs : (s.ch c).state = .idle ∨ (s.ch c).state = .waiting) :
    s.accept c .park = (s.setCh c { s.ch c with
      reason := .none, state := .saving, claim := none, owedAttempt := .none, progressOwed := false
      save := some { origin := .explicit, stage := 1, address := (s.ch c).csbUsed
                     image := csbEncode (s.ch c) (s.ch c).state .explicit } }).ask
      { kind := .writePartial, address := (s.ch c).csbUsed.toNat / 64 * 64, span := 64, mask := 0xFF#64, bytes := 0
        owner := .channel c, purpose := .csbSave, orphan := false, waited := false, fresh := true } := by
  have h : s.accept c .park = (s.modCh c fun h => { h with reason := .none }).beginSave c .explicit := by
    rw [State.accept_park, State.acceptPark, State.ch_modCh_same]
    obtain hs | hs := hs <;> simp only [hs]
  rw [h, State.beginSave_eq, State.ch_modCh_same, State.modCh, State.setCh_setCh]
  rfl

/-- A Park accepted while the channel saves, restores or runs expedited work is pending (R114, R116). -/
theorem State.accept_park_pends
    (hs : (s.ch c).state = .saving ∨ (s.ch c).state = .restoring ∨ (s.ch c).state = .expediting) :
    s.accept c .park = s.setCh c { s.ch c with reason := .none, pendingPark := true } := by
  rw [State.accept_park, State.acceptPark, State.ch_modCh_same, State.modCh]
  obtain hs | hs | hs := hs <;> simp only [hs, State.setCh_setCh]

/-- A Park accepted in Running claims the park at the next boundary, or is pending behind an automatic one (R114). -/
theorem State.accept_park_claims (hs : (s.ch c).state = .running) : s.accept c .park = s.setCh c
    (match (s.ch c).claim with
     | none => { s.ch c with reason := .none, claim := some .explicit }
     | some .explicit => { s.ch c with reason := .none }
     | some .automatic => { s.ch c with reason := .none, pendingPark := true }) := by
  rw [State.accept_park, State.acceptPark, State.ch_modCh_same, State.modCh]
  simp only [hs]
  split <;> simp only [State.setCh_setCh, *]

/-! ### Unpark -/

/-- A restore begins with eight reads of 64 bytes, in ascending order (R117; log 12). -/
theorem State.accept_unpark (s : State) (c : Chan) : s.accept c .unpark = (List.range 8).foldl
    (fun u i => u.ask { kind := .readDirect, address := (s.ch c).csbUsed.toNat + 64 * i, span := 64, mask := 0, bytes := 0
                        owner := .channel c, purpose := .csbRead i, orphan := false, waited := false, fresh := true })
    (s.setCh c { s.ch c with
      reason := .none, state := .restoring, expFrom := none
      restore := some { byUnpark := true, address := (s.ch c).csbUsed, image := 0
                        missing := [0, 1, 2, 3, 4, 5, 6, 7] } }) := by
  have h : s.accept c .unpark = (s.modCh c fun h => { h with reason := .none }).beginRestore c true := rfl
  rw [h, State.beginRestore, State.ch_modCh_same, State.modCh_modCh]
  rfl

/-- Settles O37. -/
theorem parkAndUnpark : Obligations.ParkAndUnpark := by
  refine ⟨fun s c v hv => ?_, fun s c hp hf => ?_⟩
  · intro h write busy
    have hbusy : busy ↔ s.saveOutstanding c = true := (s.saveOutstanding_iff c).symm
    refine ⟨fun hb => State.saveStep_busy hv (hbusy.1 hb), fun hb hs => ?_, fun hb hs => ?_, fun hb hs ho => ?_,
      fun hb hs ho => ?_⟩ <;> rw [hbusy, Bool.not_eq_true] at hb
    · rw [State.saveStep_next hv hb (by omega), hs]
      rfl
    · rw [State.saveStep_next hv hb (by omega), hs]
      rfl
    · rw [State.saveStep_last hv hb hs, State.saveDone, ho]
      rfl
    · rw [State.saveStep_last hv hb hs, State.saveDone, ho]
      rfl
  intro h block becomes accepted save saving restore
  have hblock : (s.ch c).csbUsed = BitVec.ofNat 64 block := h.csbUsed_eq
  have haddress : (s.ch c).csbUsed.toNat = block := h.csbUsed_toNat
  have hrefused {cmd : ChanCmd} {r : Reason} (he : h.state ≠ .error) (hr : cmd ≠ .reset) (hc : h.refusal cmd = some r) :
      Host.Outcome.next (s.commandWrite c cmd) = becomes { h with reason := r } :=
    congrArg _ (State.commandWrite_refused hp hf he hr hc)
  have haccepted {u : State} (he : h.state ≠ .error) (hn : h.state ≠ .faulted)
      (hc : h.refusal .park = if h.csbAddress == 0 then some .noCsb else none)
      (hu : ((s.begin.wakeDoze.accept c .park).send .regDone).settleClose = u) :
      Host.Outcome.next (s.commandWrite c .park) = accepted (.next u) := by
    rw [State.commandWrite_park hp hf he hn hc hu]
    exact apply_ite ..
  have hsaving (hs : h.state = .idle ∨ h.state = .waiting) :
      ((s.begin.wakeDoze.accept c .park).send .regDone).settleClose = State.settleClose (State.ask
        (s.acknowledged.setCh c { h with
          reason := .none, state := .saving, claim := none, owedAttempt := .none, progressOwed := false
          save := some save })
        { kind := .writePartial, address := block / 64 * 64, span := 64, mask := 0xFF#64, bytes := 0
          owner := .channel c, purpose := .csbSave, orphan := false, waited := false, fresh := true }) := by
    have hu := State.settleClose_of_ask (State.accept_park_saves (s := s.begin.wakeDoze) hs)
    rw [State.wakeDoze_ch, State.begin_ch, haddress, hblock] at hu
    exact hu
  have hpends (hs : h.state = .saving ∨ h.state = .restoring ∨ h.state = .expediting) :
      ((s.begin.wakeDoze.accept c .park).send .regDone).settleClose =
        (s.acknowledged.setCh c { h with reason := .none, pendingPark := true }).settleClose :=
    State.settleClose_of_setCh (State.accept_park_pends (s := s.begin.wakeDoze) hs)
  have hclaims (hs : h.state = .running) := State.settleClose_of_setCh (State.accept_park_claims (s := s.begin.wakeDoze) hs)
  have hrefusal {x : ChState} (hx : h.state = x) : h.refusal .park = ({ h with state := x } : Channel).refusal .park := by
    rw [← hx]
  constructor
  · rw [exec_park, execPark]
    split
    · next hs => exact hrefused (by simp [hs]) (by simp) (hrefusal hs)
    · next hs => exact hrefused (by simp [hs]) (by simp) (hrefusal hs)
    · next hs => exact hrefused (by simp [hs]) (by simp) (hrefusal hs)
    · next hs => exact congrArg _ (State.commandWrite_inError hp hf hs (by simp))
    · next hs => exact hrefused (by simp [hs]) (by simp) (hrefusal hs)
    · next hs => exact haccepted (by simp [hs]) (by simp [hs]) (hrefusal hs) (hsaving (.inl hs))
    · next hs => exact haccepted (by simp [hs]) (by simp [hs]) (hrefusal hs) (hsaving (.inr hs))
    · next hs => exact haccepted (by simp [hs]) (by simp [hs]) (hrefusal hs) (hclaims hs)
    · next hs => exact haccepted (by simp [hs]) (by simp [hs]) (hrefusal hs) (hpends (.inl hs))
    · next hs => exact haccepted (by simp [hs]) (by simp [hs]) (hrefusal hs) (hpends (.inr (.inl hs)))
    · next hs =>
      have hx : h.refusal .park = if h.expFrom == some .parked then some .alreadyParked else
          if h.csbAddress == 0 then some .noCsb else none := hrefusal hs
      split
      · next hfrom =>
        rw [hfrom] at hx
        exact hrefused (by simp [hs]) (by simp) hx
      · next hfrom =>
        rw [beq_eq_false_iff_ne.2 hfrom] at hx
        exact haccepted (by simp [hs]) (by simp [hs]) hx (hpends (.inr (.inr hs)))
  · rw [exec_unpark, execUnpark]
    split
    · next he => exact congrArg _ (State.commandWrite_inError hp hf he (by simp))
    next he =>
    split
    · next hs => exact hrefused he (by simp) (if_neg (by simpa using hs))
    next hs =>
    have hs' : h.state = .parked := Classical.not_not.1 hs
    have hn : h.state ≠ .faulted := by simp [hs']
    have hc : h.refusal .unpark = none := if_pos (by simpa using hs')
    have hu := State.settleClose_of_asks (State.accept_unpark s.begin.wakeDoze c)
    rw [State.wakeDoze_ch, State.begin_ch, haddress, hblock] at hu
    rw [State.commandWrite_accepted hp hf he hn (by simp) hc, hu]

end Sys2Proof.Machine
end

section
/-! PROOF. RESUME_RETRY of a fault of a descriptor, and RESUME_ABANDON (R12, R17, R26, R103, R106, R124). -/
namespace Sys2Proof.Machine
variable {s u : State} {c : Chan} {h : Channel}

/-! ### The fetch of a descriptor -/

/-- What the operand cache answers for one half of a descriptor (R12). -/
def Cache.half (k : Cache) (n : Nat) : FetchHalf :=
  match k.line n with
  | some l => if l.state = .invalid then .waiting else .got l.bytes
  | none => .waiting

/-- One half of a descriptor is asked for where the operand cache does not hold its line (R12). -/
def State.askHalf (s : State) (c : Chan) (address : Nat) (upper : Bool) : State :=
  if s.cache.half (address / 64) = .waiting then
    s.ask { kind := .readDirect, address := address, span := 64, mask := 0, bytes := 0, owner := .channel c
            purpose := .descriptor upper, orphan := false, waited := false, fresh := true }
  else s

theorem State.askHalf_cache (s : State) (c : Chan) (address : Nat) (upper : Bool) :
    (s.askHalf c address upper).cache = s.cache := by
  rw [State.askHalf]
  split <;> rfl

theorem State.askHalf_setCh (s : State) (c : Chan) (address : Nat) (upper : Bool) (x : Channel) :
    (s.askHalf c address upper).setCh c x = (s.setCh c x).askHalf c address upper := by
  rw [State.askHalf, State.askHalf, State.setCh_cache]
  split <;> rfl

theorem State.askHalf_send (s : State) (c : Chan) (address : Nat) (upper : Bool) (m : Message) :
    (s.askHalf c address upper).send m = (s.send m).askHalf c address upper := by
  rw [State.askHalf, State.askHalf, show (s.send m).cache = s.cache from rfl]
  split <;> rfl

/-- A channel that fetches has taken its entry. -/
theorem Channel.taken_of_fetching {lo hi : FetchHalf} (hf : h.phase = .fetching lo hi) : h.taken = h := by
  simp only [Channel.taken, hf]

theorem Cache.half_waiting_or_got (k : Cache) (n : Nat) : k.half n = .waiting ∨ ∃ bytes, k.half n = .got bytes := by
  unfold Cache.half
  split
  · split
    · exact .inl rfl
    · exact .inr ⟨_, rfl⟩
  · exact .inl rfl

theorem State.fetchHalf_of_waiting {address : Nat} (hw : s.cache.half (address / 64) = .waiting) (upper : Bool) :
    s.fetchHalf c address upper = s.ask (Req.plain .readDirect address 64 (.channel c) (.descriptor upper)) := by
  unfold Cache.half at hw
  unfold State.fetchHalf
  cases hl : s.cache.line (address / 64) with
  | none => rfl
  | some l =>
    rw [hl] at hw
    by_cases hs : l.state = .invalid
    · simp only [hs, bne_self_eq_false, Bool.false_eq_true, if_false]
    · simp only [hs, if_false, reduceCtorEq] at hw

theorem State.fetchHalf_of_got {address : Nat} {bytes : Line} (hg : s.cache.half (address / 64) = .got bytes)
    (upper : Bool) : s.fetchHalf c address upper =
      (s.takeFor (Req.plain .readDirect address 64 (.channel c) (.descriptor upper))).deliverRead
        (Req.plain .readDirect address 64 (.channel c) (.descriptor upper)) bytes := by
  unfold Cache.half at hg
  unfold State.fetchHalf
  cases hl : s.cache.line (address / 64) with
  | none =>
    rw [hl] at hg
    cases hg
  | some l =>
    rw [hl] at hg
    by_cases hs : l.state = .invalid
    · simp only [hs, if_true, reduceCtorEq] at hg
    · simp only [hs, if_false, FetchHalf.got.injEq] at hg
      have hs' : (l.state != .invalid) = true := by simpa using hs
      simp only [hs', if_true, hg]

/-- A half that is served to a channel that fetches takes no entry. -/
theorem State.takeFor_fetching {lo hi : FetchHalf} (hf : (s.ch c).phase = .fetching lo hi) (address : Nat) (upper : Bool) :
    s.takeFor (Req.plain .readDirect address 64 (.channel c) (.descriptor upper)) = s := by
  have h : s.takeFor (Req.plain .readDirect address 64 (.channel c) (.descriptor upper)) = s.modCh c Channel.taken := rfl
  rw [h, State.modCh, Channel.taken_of_fetching hf, State.setCh_ch]

/-- One half of the fetch of a descriptor already taken (R12). -/
theorem State.fetchHalf_eq {lo hi : FetchHalf} {upper : Bool} (address : Nat) (hf : h.phase = .fetching lo hi)
    (hw : (if upper then hi else lo) = .waiting) : (u.setCh c h).fetchHalf c address upper =
      (u.setCh c { h with phase :=
        if upper then .fetching lo (u.cache.half (address / 64)) else .fetching (u.cache.half (address / 64)) hi }).askHalf
          c address upper := by
  obtain hg | ⟨bytes, hg⟩ := u.cache.half_waiting_or_got (address / 64)
  · have hkeep : (if upper then Phase.fetching lo .waiting else .fetching .waiting hi) = h.phase := by
      cases upper <;> rw [hf, ← hw] <;> rfl
    rw [State.fetchHalf_of_waiting (s := u.setCh c h) hg, hg, hkeep]
    exact (if_pos hg).symm
  · rw [State.fetchHalf_of_got (s := u.setCh c h) hg, State.takeFor_fetching (by rw [State.ch_setCh_same, hf]),
      State.deliverRead_descriptor (c := c) rfl rfl rfl (by rw [State.ch_setCh_same, hf]), State.ch_setCh_same,
      State.setCh_setCh, hg]
    have hne : u.cache.half (address / 64) ≠ .waiting := by rw [hg]; simp
    exact (if_neg hne).symm

/-- The fetch of a descriptor already taken begins again: what the operand cache holds is there at once, and the rest is
asked for, the lower half first (R12, R103; log 41). -/
theorem State.startFetch_eq (s : State) (c : Chan) (ring : RingId) (location : Word64) :
    let a := (s.ch c).descAddress ring location
    s.startFetch c ring location =
      ((s.setCh c { s.ch c with
          phase := .fetching (s.cache.half (a / 64)) (s.cache.half ((a + 64) / 64))
          current := some (Current.start 0 ring location) }).askHalf c a false).askHalf c (a + 64) true := by
  intro a
  have ha : ((s.modCh c fun h => { h with
      phase := .fetching .waiting .waiting, current := some (Current.start 0 ring location) }).ch c).descAddress
        ring location = a := by
    rw [State.ch_modCh_same]
    cases ring <;> rfl
  rw [State.startFetch, State.fetchHalves, ha, State.modCh,
    State.fetchHalf_eq (lo := .waiting) (hi := .waiting) a rfl rfl, ← State.askHalf_setCh,
    State.fetchHalf_eq (upper := true) (lo := s.cache.half (a / 64)) (hi := .waiting) (a + 64) rfl rfl,
    State.askHalf_setCh, State.askHalf_cache]
  rfl

/-! ### The descriptor is left -/

/-- The current descriptor has completed, in a channel that does not drain (R17 step 3, R26). -/
theorem Channel.finish_eq {x : Current} (hx : h.current = some x) (hd : h.state ≠ .draining) : h.finish =
    let left : Channel := { h with current := none, phase := .choose, progressOwed := false, owedAttempt := .none }
    match x.ring with
    | .normal => { left with normal := { h.normal with consumer := h.normal.succ x.location.toNat } }
    | .expedite => { left with expedite := { h.expedite with consumer := h.expedite.succ x.location.toNat } }
    | .list => { left with listPos := h.listPos.map (nextListAddress h.compact) }
    | .none => left := by
  have hd' : (h.state == .draining) = false := by simpa using hd
  simp only [Channel.finish, hx, Channel.advance, Channel.leave]
  cases x.ring <;> simp only [hd', Bool.false_eq_true, if_false]

theorem Channel.finish_state (h : Channel) : h.finish.state = h.state := by
  unfold Channel.finish
  split
  · next x _ =>
    unfold Channel.leave Channel.advance
    cases x.ring <;> rfl
  · rfl

/-- A descriptor completes at once without a completion address (R17 steps 3 and 4). -/
theorem State.complete_now {x : Current} (hx : (s.ch c).current = some x)
    (ha : descCompletion (s.ch c).compact x.image = 0) (status : Status) : s.complete c status =
      if descNotify x.image then (s.modCh c Channel.finish).post (jobCompleteEvent c status x 0 0)
      else s.modCh c Channel.finish := by
  simp only [State.complete, hx, ha, beq_self_eq_true, if_true]

/-- With a completion address, its completion record write becomes ready (R17 step 2). -/
theorem State.complete_record {x : Current} (hx : (s.ch c).current = some x)
    (ha : descCompletion (s.ch c).compact x.image ≠ 0) (status : Status) : s.complete c status =
      (s.modCh c fun h => { h with phase := .completing status false }).ask
        (Req.write (descCompletion (s.ch c).compact x.image)
          (byteMask (descCompletion (s.ch c).compact x.image % 64) 32) 0 (.channel c) (.record none)) := by
  have ha' : (descCompletion (s.ch c).compact x.image == 0) = false := by simpa using ha
  simp only [State.complete, hx, ha', Bool.false_eq_true, if_false]

/-- A descriptor asks for its event with the first of its flags (R15). -/
theorem descNotify_iff (d : DescImage) : descNotify d = true ↔ bitsAt (bytesAt d 0 4) 4 1 = 1 := by
  simp only [descNotify, descFlags, descControl, bitsAt, beq_iff_eq, Nat.shiftRight_zero]
  omega

/-! ### Resume -/

/-- A doorbell latched in a channel that does not wait claims its park in Running (R124; log 42). -/
theorem Channel.claimLatched_of_not_waiting (hw : h.state ≠ .waiting) : h.claimLatched =
    if h.state = .running ∧ h.claim = none ∧ h.expedite.producer ≠ h.expedite.fetch ∧ h.csbAddress ≠ 0 then
      { h with claim := some .automatic }
    else h := by
  simp [Channel.claimLatched, Channel.expediteLatched, Ring.untaken, hw, and_assoc]

theorem State.accept_retry (s : State) (c : Chan) : s.accept c .resumeRetry =
    ((s.modCh c fun h => { h with reason := .none }).modCh c Channel.resumed).retry c (s.ch c).fault := by
  have h : s.accept c .resumeRetry = (s.modCh c fun h => { h with reason := .none }).resume c .resumeRetry := rfl
  rw [h, State.resume, State.ch_modCh_same]

theorem State.accept_abandon (s : State) (c : Chan) : s.accept c .resumeAbandon =
    ((s.modCh c fun h => { h with reason := .none }).modCh c Channel.resumed).abandon c (s.ch c).fault := by
  have h : s.accept c .resumeAbandon = (s.modCh c fun h => { h with reason := .none }).resume c .resumeAbandon := rfl
  rw [h, State.resume, State.ch_modCh_same]

/-- The channel after the common part of every Resume (R102). -/
def Channel.takenUp (h : Channel) : Channel :=
  { h with reason := .none, fault := { h.fault with valid := false }
           state := if h.resumeExpedite then .expediting else .running }

theorem State.takenUp_eq (s : State) (c : Chan) :
    (s.modCh c fun h => { h with reason := .none }).modCh c Channel.resumed = s.setCh c (s.ch c).takenUp :=
  State.modCh_modCh ..

theorem Channel.takenUp_state (h : Channel) : h.takenUp.state ≠ .waiting ∧ h.takenUp.state ≠ .draining := by
  cases hr : h.resumeExpedite <;> simp [Channel.takenUp, hr]

theorem Channel.takenUp_descAddress (h : Channel) (ring : RingId) (location : Word64) :
    h.takenUp.descAddress ring location = h.descAddress ring location := by
  cases ring <;> rfl

/-- The halves of a fetch are asked for whatever becomes of the channel's own values. -/
theorem State.modCh_askHalves (u : State) (h : Channel) (f : Channel → Channel) (a b : Nat) :
    (((u.setCh c h).askHalf c a false).askHalf c b true).modCh c f =
      ((u.setCh c (f h)).askHalf c a false).askHalf c b true := by
  have hch (v : State) (a : Nat) (upper : Bool) : (v.askHalf c a upper).ch c = v.ch c := by
    rw [State.askHalf]
    split <;> rfl
  rw [State.modCh, hch, hch, State.ch_setCh_same, State.askHalf_setCh, State.askHalf_setCh, State.setCh_setCh]

theorem State.settleClose_of_askHalves {a b : Nat}
    (hu : u = ((s.begin.wakeDoze.setCh c h).askHalf c a false).askHalf c b true) :
    (u.send .regDone).settleClose =
      (((s.acknowledged.setCh c h).askHalf c a false).askHalf c b true).settleClose := by
  rw [hu, State.askHalf_send, State.askHalf_send, State.setCh_send]

/-- Retry of a fault of a descriptor reads it again (R103). -/
theorem State.accept_retry_descriptor (hk : (s.ch c).fault.kind.ofBeat = false) :
    let f := (s.ch c).fault
    let a := (s.ch c).descAddress f.ring f.location
    s.accept c .resumeRetry =
      ((s.setCh c { (s.ch c).takenUp with
          phase := .fetching (s.cache.half (a / 64)) (s.cache.half ((a + 64) / 64))
          current := some (Current.start 0 f.ring f.location) }).askHalf c a false).askHalf c (a + 64) true := by
  intro f a
  have ha : ((s.setCh c (s.ch c).takenUp).ch c).descAddress f.ring f.location = a := by
    rw [State.ch_setCh_same, Channel.takenUp_descAddress]
  rw [State.accept_retry, State.takenUp_eq, State.retry, hk, if_neg Bool.false_ne_true, State.startFetch_eq, ha,
    State.ch_setCh_same, State.setCh_setCh]
  rfl

/-- The kinds of fault after which a descriptor was validated (R106). -/
theorem State.abandon_eq (s : State) (c : Chan) (f : FaultRec) : s.abandon c f =
    if f.kind = .arithmetic ∨ f.kind = .address ∨ f.kind = .memory ∨ f.kind = .control then s.complete c .abandoned
    else s.modCh c Channel.finish := by
  simp only [State.abandon, FaultKind.ofBeat, Bool.or_eq_true, beq_iff_eq, or_assoc]

theorem State.ask_modCh (u : State) (r : Req) (c : Chan) (f : Channel → Channel) :
    (u.ask r).modCh c f = (u.modCh c f).ask r := rfl

theorem State.post_modCh (u : State) (v : Event) (c : Chan) (f : Channel → Channel) :
    (u.post v).modCh c f = (u.modCh c f).post v := rfl

/-- An event posted before the answer of the register write is sent. -/
theorem State.settleClose_of_post {v : Event} (hu : u = (s.begin.wakeDoze.setCh c h).post v) :
    (u.send .regDone).settleClose =
      ({ s.acknowledged.setCh c h with place := [.post v] } : State).settleClose := by
  have hsend : ((s.begin.wakeDoze.setCh c h).post v).send .regDone = ((s.begin.wakeDoze.setCh c h).send .regDone).post v := rfl
  rw [hu, hsend, State.setCh_send]
  rfl

/-- Settles O39. -/
theorem resumeDescriptors : Obligations.ResumeDescriptors := by
  intro s c x hp hf hs hx h f validated reduced resumed latched succ left past address half record got asks
  have hlatched {k : Channel} (hk : k.state ≠ .waiting) : k.claimLatched = latched k :=
    Channel.claimLatched_of_not_waiting hk
  have hstate := h.takenUp_state
  have hfinish : h.takenUp.finish = past := by rw [Channel.finish_eq (h := h.takenUp) hx hstate.2]; rfl
  have hpast : past.state ≠ .waiting := by
    have hring : past.state = h.takenUp.state := by rw [← hfinish]; exact Channel.finish_state _
    rw [hring]
    exact hstate.1
  have hcurrent (u : State) : ((u.setCh c h.takenUp).ch c).current = some x := by rw [State.ch_setCh_same]; exact hx
  refine ⟨fun hk => ?_, fun hk => ?_, fun hk hr => ?_, fun hk hr => ?_⟩
  · have hbeat : f.kind.ofBeat = false := by obtain hk | hk | hk | hk := hk <;> rw [hk] <;> rfl
    have haddress : h.descAddress f.ring f.location = address := by
      unfold Channel.descAddress
      rfl
    have hasks (u : State) (upper : Bool) (hu : u.cache = s.cache) : asks u upper = u.askHalf c (half upper).address upper := by
      unfold State.askHalf
      rw [hu]
      rfl
    have hasks₂ (u : State) (hu : u.cache = s.cache) :
        asks (asks u false) true = (u.askHalf c address false).askHalf c (address + 64) true := by
      rw [hasks u false hu, hasks _ true (by rw [State.askHalf_cache, hu])]
      rfl
    have haccept := State.accept_retry_descriptor (s := s.begin.wakeDoze) (c := c) hbeat
    have hu := congrArg (fun u : State => u.modCh c Channel.claimLatched) haccept
    dsimp only at hu
    rw [State.modCh_askHalves, hlatched (by exact hstate.1)] at hu
    rw [exec_resumeRetry, execResumeRetry, State.commandWrite_resumed hp hf hs (by simp)
      (by simp [Channel.refusal, hs, resumeAdmits]), State.settleClose_of_askHalves hu, hasks₂ (s.acknowledged.setCh c _) rfl,
      ← haddress]
    rfl
  all_goals
    have habandon : s.begin.wakeDoze.accept c .resumeAbandon = (s.begin.wakeDoze.setCh c h.takenUp).abandon c f := by
      rw [State.accept_abandon, State.takenUp_eq]
      rfl
    rw [State.abandon_eq] at habandon
    rw [exec_resumeAbandon, execResumeAbandon, State.commandWrite_resumed hp hf hs (by simp)
      (by simp [Channel.refusal, hs, resumeAdmits]), habandon]
  · rw [if_neg hk, State.modCh_modCh, State.ch_setCh_same, State.setCh_setCh, hfinish, hlatched hpast]
    exact congrArg _ (State.settleClose_of_setCh rfl)
  · rw [if_pos hk, State.complete_record (hcurrent _) (by rw [State.ch_setCh_same]; exact hr)]
    have hphase := hlatched (k := { h.takenUp with phase := .completing .abandoned false }) hstate.1
    refine congrArg _ (State.settleClose_of_ask ?_)
    rw [State.ask_modCh, State.modCh_modCh, State.ch_setCh_same, State.setCh_setCh, hphase]
    rfl
  · rw [if_pos hk, State.complete_now (hcurrent _) (by rw [State.ch_setCh_same]; exact hr)]
    by_cases hn : descNotify x.image = true
    · rw [if_pos hn, if_pos ((descNotify_iff _).1 hn), State.post_modCh, State.modCh_modCh, State.ch_setCh_same,
        State.setCh_setCh, hfinish, hlatched hpast]
      exact congrArg _ (State.settleClose_of_post rfl)
    · rw [if_neg hn, if_neg (fun hb => hn ((descNotify_iff _).2 hb)), State.modCh_modCh, State.ch_setCh_same,
        State.setCh_setCh, hfinish, hlatched hpast]
      exact congrArg _ (State.settleClose_of_setCh rfl)

end Sys2Proof.Machine
end

section
/-! PROOF. A descriptor fetched and executed (R12, R16 to R25, R63), a channel that has drained (R30), and the entry into
Faulted (R96 to R98, R107). -/
namespace Sys2Proof.Machine
variable {s : State} {c : Chan} {h : Channel} {x : Current}

/-! ### The entry into Faulted -/

theorem FaultKind.ofBeat_iff (k : FaultKind) : k.ofBeat = true ↔ k = .arithmetic ∨ k = .address ∨ k = .memory := by
  cases k <;> decide

/-- The status of a Job Fault event (R98). -/
theorem FaultRec.eventStatus_eq (f : FaultRec) :
    f.eventStatus = BitVec.ofNat 16 (f.kind.code + 256 * f.sub.code + 4096 * f.phase.code) := by
  rw [FaultRec.eventStatus]
  congr 1
  omega

theorem Channel.faulted_eq (h : Channel) (f : FaultRec) : h.faulted f =
    let ofBeat := f.kind = .arithmetic ∨ f.kind = .address ∨ f.kind = .memory
    { h with
      state := .faulted, fault := f, phase := if ofBeat then .job else .ready, resumeExpedite := f.ring == .expedite
      current := h.current.map fun x => { x with faults := if ofBeat then x.faults + 1 else x.faults, fails := [] }
      claim := none, owedAttempt := .none, pendingFault := none, progressOwed := false } := by
  simp only [Channel.faulted, FaultKind.ofBeat_iff]

section EnterFaulted
variable (s : State) (c : Chan) (f : FaultRec)

theorem State.enterFaulted_gaveUp : s.GaveUp (s.enterFaulted c f) c fun q => s.granted c && q.ofBeat c :=
  (s.discardBeat_gaveUp c).of_same rfl rfl rfl

theorem State.enterFaulted_ch : (s.enterFaulted c f).ch c = (s.ch c).faulted f := by
  have hc : (s.discardBeat c).ch c = s.ch c := by rw [State.discardBeat_rest]; rfl
  rw [State.enterFaulted, State.post_ch, State.ch_modCh_same, hc]

theorem State.enterFaulted_ch_ne {d : Chan} (hd : d ≠ c) : (s.enterFaulted c f).ch d = s.ch d := by
  have hc : (s.discardBeat c).ch d = s.ch d := by rw [State.discardBeat_rest]; rfl
  rw [State.enterFaulted, State.post_ch, State.ch_modCh_ne _ hd, hc]

theorem State.enterFaulted_queue : (s.enterFaulted c f).cache.queue = s.cache.queue := by
  have hk : (s.enterFaulted c f).cache = (s.discardBeat c).cache := rfl
  rw [hk, (s.discardBeat_onlyLines c).rest]

theorem State.enterFaulted_rest : s.enterFaulted c f = { s with
    chans := (s.enterFaulted c f).chans, beat := (s.enterFaulted c f).beat, link := (s.enterFaulted c f).link
    cache := (s.enterFaulted c f).cache, place := s.place ++ [.post (f.event c false)] } := by
  rw [State.enterFaulted, State.discardBeat_rest]
  rfl

end EnterFaulted

/-- A pending fault is raised when no bypass write of the job is outstanding (R96). -/
theorem State.settleFault_of_pending {f : FaultRec} (hx : h.current = some x) (hn : x.fails = [])
    (hf : h.pendingFault = some f) :
    s.settleFault c h = if s.bypassOutstanding c then none else some (s.enterFaulted c f) := by
  simp only [State.settleFault, hx, hn, hf, List.isEmpty_nil, Bool.not_true, Bool.false_eq_true, if_false, Option.map_some]

/-! ### An attempt that meets an unmasked condition -/

theorem descSubstitute_iff (d : DescImage) : descSubstitute d = true ↔ bitsAt (bytesAt d 0 4) 7 1 = 1 := by
  simp only [descSubstitute, descFlags, descControl, bitsAt, beq_iff_eq, Nat.shiftRight_eq_div_pow]
  omega

/-- A job that does not substitute keeps its fault pending and releases the grant (R96). -/
theorem State.raiseBeatFault_ch (s : State) (c : Chan) (f : FaultRec) :
    (s.raiseBeatFault c f).ch c = { s.ch c with pendingFault := some f } := by
  have hc : (s.releaseGrant c).ch c = s.ch c := by rw [State.releaseGrant_eq]; rfl
  rw [State.raiseBeatFault, State.ch_modCh_same, hc]

theorem State.raiseBeatFault_ch_ne (s : State) {c d : Chan} (hd : d ≠ c) (f : FaultRec) :
    (s.raiseBeatFault c f).ch d = s.ch d := by
  have hc : (s.releaseGrant c).ch d = s.ch d := by rw [State.releaseGrant_eq]; rfl
  rw [State.raiseBeatFault, State.ch_modCh_ne _ hd, hc]

/-- The flags of an attempt are added to those of the ACW and of the job (R75, R76). -/
theorem Channel.addFlags_eq (hx : h.current = some x) (conds : CondSet) : h.addFlags conds =
    { h with acw := h.acw ||| conds.setWidth 32, current := some { x with flags := x.flags ||| conds } } := by
  simp only [Channel.addFlags, acwSetFlags, hx, Option.map_some]

/-- A job with Substitute-on-fault tries the beat again full-masked (R107). -/
theorem State.arithmeticStop_substitutes {b : Beat} (hb : b.chan = c) (hx : (s.ch c).current = some x)
    (hd : descSubstitute x.image = true) (conds : CondSet) (f : FaultRec) : s.arithmeticStop b x conds f =
      ((s.setCh c { s.ch c with
        acw := (s.ch c).acw ||| conds.setWidth 32
        current := some { x with flags := x.flags ||| conds, faults := x.faults + 1 } }).post
          (f.event c true)).startAttempt c true := by
  simp only [State.arithmeticStop, hb, hd, if_true, State.modCh_modCh, Channel.addFlags_eq hx, Option.map_some]

theorem State.arithmeticStop_faults {b : Beat} (hb : b.chan = c) (hd : descSubstitute x.image = false) (conds : CondSet)
    (f : FaultRec) :
    s.arithmeticStop b x conds f = (s.modCh c fun h => h.addFlags conds).raiseBeatFault c f := by
  simp only [State.arithmeticStop, hb, hd, Bool.false_eq_true, if_false]

/-! ### A channel that has drained -/

/-- A drained channel is Disabled, unless a hold applies (R30; log 14). -/
theorem State.workStep_drained (hp : (s.ch c).phase = .drained) (hc : (s.ch c).current = none)
    (hf : (s.ch c).pendingFault = none) : s.workStep c (s.ch c) =
      if (s.ch c).held then none else some (s.setCh c { s.ch c with state := .disabled, phase := .choose }) := by
  have hs : s.settleFault c (s.ch c) = none := by simp only [State.settleFault, hc, ite_self]
  simp only [State.workStep, hs, hp, hc, hf, Option.isSome_none, Option.map_none, Option.getD_none, Bool.not_true,
    Bool.or_self, Bool.false_eq_true, if_false, State.modCh]

/-! ### A SET CONTROL -/

/-- Every bit of the update mask is a bit of the capability mask (R63). -/
theorem updateMaskLegal_iff {mask : Nat} (hm : mask < 2 ^ 64) :
    updateMaskLegal mask = true ↔ ∀ i, mask.testBit i = true → (0x000F7F7F).testBit i = true := by
  have hbit (i : Nat) (hi : i < 64) :
      ((BitVec.ofNat 64 mask) &&& ~~~(Config.acwMask.setWidth 64))[i] = (mask.testBit i && !(0x000F7F7F).testBit i) := by
    have hcap : (Config.acwMask.setWidth 64 : BitVec 64) = BitVec.ofNat 64 0x000F7F7F := rfl
    rw [hcap, BitVec.getElem_and, BitVec.getElem_not, BitVec.getElem_eq_testBit_toNat, BitVec.getElem_eq_testBit_toNat,
      BitVec.toNat_ofNat, BitVec.toNat_ofNat, Nat.mod_eq_of_lt hm, Nat.mod_eq_of_lt (by decide)]
  rw [updateMaskLegal, beq_iff_eq]
  constructor
  · intro hz i hi
    have hlt : i < 64 := by
      by_contra hge
      rw [Nat.testBit_lt_two_pow (hm.trans_le (Nat.pow_le_pow_right (by decide) (Nat.le_of_not_lt hge)))] at hi
      exact Bool.false_ne_true hi
    have hb := hbit i hlt
    rw [hz, hi] at hb
    simpa using hb.symm
  · intro hsub
    refine BitVec.eq_of_getElem_eq fun i hi => ?_
    rw [hbit i hi]
    cases hb : mask.testBit i with
    | false => simp
    | true => simp [hsub i hb]

theorem acwUpdate_getElem (acw : Word32) (mask imm : Nat) (i : Fin 32) :
    (acwUpdate acw (BitVec.ofNat 32 mask) (BitVec.ofNat 32 imm))[i.val] =
      if mask.testBit i.val then imm.testBit i.val else acw[i.val] := by
  have hbit (n : Nat) : (BitVec.ofNat 32 n)[i.val] = n.testBit i.val := by
    rw [BitVec.getElem_eq_testBit_toNat, BitVec.toNat_ofNat, Nat.testBit_mod_two_pow, decide_eq_true i.isLt, Bool.true_and]
  simp only [acwUpdate, BitVec.getElem_or, BitVec.getElem_and, BitVec.getElem_not, hbit]
  cases mask.testBit i.val <;> simp

theorem descUpdateMask_lt (d : DescImage) : descUpdateMask d < 2 ^ 64 := Nat.mod_lt _ (by decide)

/-! ### A descriptor of channel `c` -/

/-- A fault record of the current descriptor (R97). -/
theorem Channel.faultRec_eq (hx : h.current = some x) (kind : FaultKind) (sub : SubKind) : h.faultRec kind sub =
    { valid := true, ring := x.ring, location := x.location, kind := kind, sub := sub, phase := .none, beat := 0
      lanes := 0, conds := 0, stream := .none, address := 0 } := by
  simp only [Channel.faultRec, hx, Option.map_some, Option.getD_some]
  rfl

theorem Channel.leave_eq (h : Channel) : h.leave = { h with
    current := none, phase := if h.state = .draining then .drained else .choose, progressOwed := false
    owedAttempt := .none } := by
  simp only [Channel.leave, beq_iff_eq]

section Descriptor
variable (hx : (s.ch c).current = some x)
include hx

theorem State.fetched_got (low high : Line) : s.fetched c (.got low) (.got high) =
    let image : DescImage := high ++ low
    let u := s.setCh c { s.ch c with phase := .ready, current := some (Current.start image x.ring x.location) }
    if validDescriptor (s.ch c).compact x.ring image then u
    else u.enterFaulted c ((s.ch c).faultRec .descriptor .none) := by
  simp only [State.fetched, hx, Option.map_some, Option.getD_some, State.modCh]

theorem State.fetched_failed_low (reason : FailReason) (other : FetchHalf) : s.fetched c (.failed reason) other =
    s.enterFaulted c { (s.ch c).faultRec .descriptorFetch (FailReason.sub reason) with
      address := BitVec.ofNat 64 ((s.ch c).descAddress x.ring x.location) } := by
  simp only [State.fetched, hx, Option.map_some, Option.getD_some]

theorem State.fetched_failed_high (reason : FailReason) (low : Line) : s.fetched c (.got low) (.failed reason) =
    s.enterFaulted c { (s.ch c).faultRec .descriptorFetch (FailReason.sub reason) with
      address := BitVec.ofNat 64 ((s.ch c).descAddress x.ring x.location + 64) } := by
  simp only [State.fetched, hx, Option.map_some, Option.getD_some]

/-- An OPERATION of length 0 is complete at once (R18). -/
theorem State.execute_empty (hk : descKind x.image = some .operation) (hl : descLength x.image = 0) :
    s.execute c (s.ch c) x =
      (s.setCh c { s.ch c with current := some { x with committed := 0, skipped := 0, flags := 0 } }).complete c .empty := by
  simp only [State.execute, hk, hl, beq_self_eq_true, if_true, State.modCh, hx, Option.map_some, Current.emptied]

end Descriptor

theorem State.execute_job (hk : descKind x.image = some .operation) (hl : descLength x.image ≠ 0) :
    s.execute c (s.ch c) x = s.setCh c { s.ch c with phase := .job } := by
  have hl' : (descLength x.image == 0) = false := by simpa using hl
  simp only [State.execute, hk, hl', Bool.false_eq_true, if_false, State.modCh]

/-- A FENCE waits while a record or a bypass write is outstanding or waits (R20; log 34). -/
theorem State.execFence_eq (s : State) (c : Chan) : s.execFence c =
    if s.recordOutstanding c || s.bypassOutstanding c then
      s.setCh c { s.ch c with
        phase := .fence, state := if (s.ch c).state = .running then .waiting else (s.ch c).state }
    else s.complete c .completed := by
  simp only [State.execFence, State.fenceBlocked, State.modCh, beq_iff_eq]

theorem State.execSetControl_legal (hm : updateMaskLegal (descUpdateMask x.image) = true) :
    s.execSetControl c (s.ch c) x = (s.setCh c { s.ch c with
      acw := acwUpdate (s.ch c).acw (BitVec.ofNat 32 (descUpdateMask x.image))
        (BitVec.ofNat 32 (descImmediate x.image)) }).complete c .completed := by
  simp only [State.execSetControl, hm, if_true, State.modCh]

theorem State.execSetControl_illegal (hm : updateMaskLegal (descUpdateMask x.image) = false) :
    s.execSetControl c h x = s.enterFaulted c (h.faultRec .control .none) := by
  simp only [State.execSetControl, hm, Bool.false_eq_true, if_false]

/-- The entry that a CALL pushes (R24; log 49). -/
theorem Channel.callEntry_eq (h : Channel) (x : Current) : h.callEntry x =
    if x.ring = .list then
      { kind := .listAddress, next := nextListAddress h.compact x.location
        held := match h.links with
          | [] => 0
          | e :: _ => e.held }
    else
      { kind := .ringPosition, next := BitVec.ofNat 64 (h.normal.succ x.location.toNat), held := x.location.toNat } := by
  simp only [Channel.callEntry, beq_iff_eq]
  cases h.links <;> rfl

theorem State.execCall_overflow (hl : 4 ≤ h.links.length) :
    s.execCall c h x = s.enterFaulted c (h.faultRec .link .overflow) := if_pos hl

theorem State.execCall_pushes (hl : (s.ch c).links.length < 4) : s.execCall c (s.ch c) x =
    s.setCh c ({ s.ch c with
      links := (s.ch c).callEntry x :: (s.ch c).links
      listPos := some (BitVec.ofNat 64 (descTarget (s.ch c).compact x.image)) } : Channel).leave :=
  if_neg (Nat.not_le.2 hl)

theorem State.execReturn_underflow (hl : h.links = []) :
    s.execReturn c h = s.enterFaulted c (h.faultRec .link .underflow) := by
  simp only [State.execReturn, hl]

theorem State.execReturn_pops {e : LinkEntry} {rest : List LinkEntry} (hl : (s.ch c).links = e :: rest) :
    s.execReturn c (s.ch c) = s.setCh c
      (match e.kind with
       | .listAddress => { s.ch c with links := rest, listPos := some e.next }
       | .ringPosition => { s.ch c with
           links := rest, listPos := none
           normal := { (s.ch c).normal with consumer := (s.ch c).normal.succ e.held } } : Channel).leave := by
  simp only [State.execReturn, hl, State.modCh]
  cases e.kind <;> rfl

/-- Settles O58. -/
theorem controlDescriptors : Obligations.ControlDescriptors := by
  refine ⟨fun s c f => ?_, fun s c hp hc hf => State.workStep_drained hp hc hf, fun s c x hx => ?_⟩
  · intro h v ofBeat read event
    have hevent : f.event c false = event := by
      rw [FaultRec.event, FaultRec.eventStatus_eq]
      rfl
    have hread : (fun q : Req => s.granted c && q.owner == .channel c && !q.orphan && read q) =
        fun q => s.granted c && q.ofBeat c := by
      funext q
      rw [Req.ofBeat, Req.isOf, ← Bool.and_assoc, ← Bool.and_assoc]
      rfl
    refine ⟨⟨?_, fun d hd => s.enterFaulted_ch_ne c f hd, ?_, s.enterFaulted_queue c f, ?_⟩,
      fun x hx hn hf => State.settleFault_of_pending hx hn hf, fun b x conds hb hx => ?_⟩
    · rw [State.enterFaulted_ch, Channel.faulted_eq]
    · rw [hread]
      exact s.enterFaulted_gaveUp c f
    · rw [← hevent]
      exact s.enterFaulted_rest c f
    · intro counted
      refine ⟨fun hd => ?_, fun hd => ?_⟩
      · have hauto : f.event c true = { event with auto := true } := by rw [← hevent]; rfl
        rw [State.arithmeticStop_substitutes hb hx ((descSubstitute_iff _).2 hd), hauto]
        rfl
      · have hn : descSubstitute x.image = false := by
          rw [← Bool.not_eq_true, descSubstitute_iff, hd]
          decide
        intro u
        have hu : u = (s.modCh c fun h => h.addFlags conds).raiseBeatFault c f := State.arithmeticStop_faults hb hn conds f
        have hrest := State.releaseGrant_eq (s.modCh c fun h => h.addFlags conds) c
        rw [hu]
        refine ⟨?_, fun d hd => ?_, ?_, ?_, ?_⟩
        · rw [State.raiseBeatFault_ch, State.ch_modCh_same, Channel.addFlags_eq hx]
        · rw [State.raiseBeatFault_ch_ne _ hd, State.ch_modCh_ne _ hd]
        all_goals
          rw [State.raiseBeatFault, hrest]
          rfl
  · intro h fault mask immediate reduced succ left address unread
    have hfault (kind : FaultKind) (sub : SubKind) : (s.ch c).faultRec kind sub = fault kind sub :=
      Channel.faultRec_eq hx kind sub
    have haddress : (s.ch c).descAddress x.ring x.location = address := by
      unfold Channel.descAddress
      rfl
    have hlegal := updateMaskLegal_iff (descUpdateMask_lt x.image)
    refine ⟨fun low high => ?_, fun reason other => ?_, fun reason low => ?_, ?_, fun hm => ?_, fun hm => ?_, fun hl => ?_,
      fun hl => ?_, fun hl => ?_, fun e rest hl => ?_⟩
    · intro image u
      rw [State.fetched_got hx, hfault]
      rfl
    · rw [State.fetched_failed_low hx, hfault, haddress]
      cases reason <;> rfl
    · rw [State.fetched_failed_high hx, hfault, haddress]
      cases reason <;> rfl
    · intro run
      refine ⟨State.execute_empty hx, State.execute_job, fun hk => ?_, fun hk => ?_, fun hk => ?_, fun hk => ?_, fun hk => ?_,
        fun hk => ?_⟩ <;> simp only [run, State.execute, hk]
      · exact s.execFence_eq c
      · rfl
    · obtain ⟨i, hi, hc⟩ := hm
      have hn : updateMaskLegal (descUpdateMask x.image) = false := by
        rw [← Bool.not_eq_true, hlegal]
        intro hall
        exact Bool.false_ne_true (hc ▸ hall i hi)
      rw [State.execSetControl_illegal hn, hfault]
    · exact ⟨_, acwUpdate_getElem h.acw mask immediate, State.execSetControl_legal (hlegal.2 hm)⟩
    · rw [State.execCall_overflow hl, hfault]
    · rw [State.execCall_pushes hl, Channel.leave_eq, Channel.callEntry_eq]
      rfl
    · rw [State.execReturn_underflow hl, hfault]
    · rw [State.execReturn_pops hl, Channel.leave_eq]
      cases e.kind <;> rfl

end Sys2Proof.Machine
end

section
/-! PROOF. What the commit of a beat changes (R1, R40, R77, R141). -/
namespace Sys2Proof.Machine
variable {s u v : State} {b : Beat} {x : Current}

/-! ### Cached destination lanes -/

/-- A change of the beat and of the lines and orders of use of the cache alone. -/
def State.OnlySets (s u : State) : Prop := u = { s with beat := u.beat, cache := { s.cache with sets := u.cache.sets } }

theorem State.OnlySets.trans (h : s.OnlySets u) (k : u.OnlySets v) : s.OnlySets v := by
  unfold State.OnlySets at *
  rw [k, h]

theorem foldl_onlySets {α : Type} {g : State → α → State} (hg : ∀ (s : State) x, s.OnlySets (g s x)) :
    ∀ (xs : List α) (s : State), s.OnlySets (xs.foldl g s)
  | [], _ => rfl
  | x :: xs, s => (hg s x).trans (foldl_onlySets hg xs (g s x))

theorem State.OnlySets.of_cache {k : Cache} (h : k = { s.cache with sets := k.sets }) :
    s.OnlySets { s with cache := k } :=
  congrArg (fun k => ({ s with cache := k } : State)) h

theorem State.modLine_onlySets (s : State) (n : Nat) (f : CacheLine → CacheLine) :
    s.OnlySets (s.modCache fun k => k.modLine n f) :=
  .of_cache (s.cache.modLine_rest n f)

theorem State.touchOnce_onlySets (s : State) (i : SetId) (w : WayId) : s.OnlySets (s.touchOnce i w) := by
  unfold State.touchOnce
  split
  · split <;> rfl
  · rfl

theorem State.writeCached_onlySets (size : Nat) (s : State) (l : DestLane) : s.OnlySets (s.writeCached size l) := by
  unfold State.writeCached
  dsimp only
  split
  · exact (s.modLine_onlySets ..).trans (State.touchOnce_onlySets ..)
  · exact s.modLine_onlySets ..

/-- A cached lane puts its bytes into its line and makes it Dirty (R141). -/
theorem State.writeCached_line (s : State) (size : Nat) (k : DestLane) (n : Nat) :
    (s.writeCached size k).cache.line n = if n = k.address / 64 then
      (s.cache.line n).map fun l => { l with state := .dirty, bytes := putBytes l.bytes (k.address % 64) size k.value }
    else s.cache.line n := by
  have hline : (s.writeCached size k).cache.line n = (s.cache.modLine (k.address / 64) fun l =>
      { l with state := .dirty, bytes := putBytes l.bytes (k.address % 64) size k.value }).line n := by
    unfold State.writeCached
    dsimp only
    split
    · rw [State.touchOnce_line]
      rfl
    · rfl
  rw [hline, Cache.line_modLine]

/-- Each line takes its lanes in their order (R40, R141). -/
theorem foldl_writeCached_line (size n : Nat) : ∀ (ks : List DestLane) (s : State),
    (ks.foldl (fun s k => s.writeCached size k) s).cache.line n =
      let mine := ks.filter fun k => k.address / 64 == n
      (s.cache.line n).map fun l => { l with
        state := if mine = [] then l.state else .dirty
        bytes := mine.foldl (fun y k => putBytes y (k.address % 64) size k.value) l.bytes }
  | [], s => by simp
  | k :: ks, s => by
    rw [List.foldl_cons, foldl_writeCached_line size n ks, State.writeCached_line]
    by_cases hn : n = k.address / 64
    · have hk : (k.address / 64 == n) = true := by simp [hn]
      simp only [if_pos hn, List.filter_cons, hk, if_true, Option.map_map, List.foldl_cons, reduceCtorEq, if_false]
      refine congrArg (Option.map · _) (funext fun l => ?_)
      simp only [Function.comp_apply, ite_self]
    · have hk : (k.address / 64 == n) = false := by simpa using fun e => hn e.symm
      simp only [if_neg hn, List.filter_cons, hk, Bool.false_eq_true, if_false]

/-! ### The commit -/

/-- The commit up to the release of the grant: the cached lanes are written, and the pins go (R141). -/
def State.written (s : State) (b : Beat) (x : Current) : State :=
  { ((b.dest.filter fun l => !b.laneBypasses x l).foldl (fun s l => s.writeCached (streamSize x.image .d) l)
      (s.modBeat fun b => { b with touched := [] })).releasePins b with beat := none }

theorem State.written_onlySets (s : State) (b : Beat) (x : Current) : s.OnlySets (s.written b x) := by
  have hpins (u : State) : u.OnlySets (u.releasePins b) :=
    .of_cache (Cache.foldl_onlyLines (fun k _ => k.modLine_onlyLines ..) b.acqs u.cache).rest
  have hmod : s.OnlySets (s.modBeat fun b => { b with touched := [] }) := rfl
  exact ((hmod.trans (foldl_onlySets (State.writeCached_onlySets _) _ _)).trans (hpins _)).trans rfl

theorem State.commit_eq (s : State) (b : Beat) (x : Current) : s.commit b x =
    (((linesOf (b.bypassLanes x)).foldl (fun u n => u.ask (bypassWrite b.chan x.beat (streamSize x.image .d) n (b.bypassLanes x)))
      ((linesOf (b.bypassLanes x)).foldl State.clearBypassLine (s.written b x))).modCh b.chan
        fun h => h.committed b.conds) := rfl

theorem State.clearBypassLine_keeps (u : State) (n : Nat) :
    (u.clearBypassLine n).chans = u.chans ∧ (u.clearBypassLine n).beat = u.beat := by
  unfold State.clearBypassLine
  split
  · split <;> exact ⟨rfl, rfl⟩
  · exact ⟨rfl, rfl⟩

/-- The commit changes its own channel and releases the grant, whatever becomes of its lines (R32, R77). -/
theorem State.commit_keeps (s : State) (b : Beat) (x : Current) :
    ∃ u : State, s.commit b x = u.modCh b.chan (fun h => h.committed b.conds) ∧ u.chans = s.chans ∧ u.beat = none := by
  refine ⟨_, s.commit_eq b x, ?_, ?_⟩
  · refine (foldl_keeps (p := State.chans) (by intros; rfl) _ _).trans ?_
    refine (foldl_keeps (p := State.chans) (fun u n => (u.clearBypassLine_keeps n).1) _ _).trans ?_
    rw [s.written_onlySets b x]
  · refine (foldl_keeps (p := State.beat) (by intros; rfl) _ _).trans ?_
    exact foldl_keeps (p := State.beat) (fun u n => (u.clearBypassLine_keeps n).2) _ _

/-- The channel after a commit (R77). -/
theorem Channel.committed_eq {h : Channel} (hx : h.current = some x) (conds : CondSet) : h.committed conds = { h with
    acw := h.acw ||| conds.setWidth 32, owedAttempt := .none, progressOwed := false
    current := some { x with flags := x.flags ||| conds, beat := x.beat + 1, committed := x.committed + 1 }
    phase := if x.beat + 1 < descBeats x.image then .job else .ending } := by
  simp only [Channel.committed, Channel.addFlags_eq hx, Option.map_some]

/-- No lane bypasses where the destination is cached and no line fell back (R141). -/
theorem Beat.not_laneBypasses (hd : streamBypass x.image .d = false) (hq : ∀ q ∈ b.acqs, q.state ≠ .fallback)
    (l : DestLane) : b.laneBypasses x l = false := by
  rw [Beat.laneBypasses, hd, Bool.false_or, List.any_eq_false]
  intro q hm
  simp [hq q hm]

/-- A cached commit changes the lines, the grant and its channel, and nothing else but orders of use (R137, R141). -/
theorem State.commit_cached (hl : ∀ l : DestLane, b.laneBypasses x l = false) :
    s.commit b x = (s.written b x).modCh b.chan fun h => h.committed b.conds := by
  have hnone : linesOf (b.bypassLanes x) = [] := by
    have : b.bypassLanes x = [] := by simp [Beat.bypassLanes, hl]
    rw [this]
    rfl
  rw [State.commit_eq, hnone]
  rfl

theorem State.written_line (hl : ∀ l : DestLane, b.laneBypasses x l = false) (n : Nat) :
    let mine := b.dest.filter fun k => k.address / 64 == n
    (s.written b x).cache.line n = (s.cache.line n).map fun l => { l with
      state := if mine = [] then l.state else .dirty
      bytes := mine.foldl (fun y k => putBytes y (k.address % 64) (streamSize x.image .d) k.value) l.bytes
      pinned := l.pinned && !b.acqs.any fun q => q.line == n } := by
  intro mine
  have hall : (b.dest.filter fun l => !b.laneBypasses x l) = b.dest := by simp [hl]
  have hpins : (s.written b x).cache.line n = _ := State.releasePins_line _ b n
  rw [hpins, hall, foldl_writeCached_line, Option.map_map]
  rfl

end Sys2Proof.Machine
end

section
/-! PROOF. BEAT_GRANT: the arbiter's choice (R32, R33), and how an attempt at a beat begins (R93, R94). -/
namespace Sys2Proof.Machine
variable {s u : State} {c : Chan} {x : Current}

/-! ### The first channel in cyclic order -/

/-- What `find?` answers is the least of a list in ascending order that the predicate admits. -/
theorem find_le {α : Type} {key : α → Chan} {p : α → Bool} {a : α} : ∀ {xs : List α},
    xs.Pairwise (fun x y => key x < key y) → xs.find? p = some a → ∀ y ∈ xs, p y = true → key a ≤ key y
  | x :: xs, hs, hf, y, hy, hp => by
    obtain ⟨hx, hs⟩ := List.pairwise_cons.1 hs
    rw [List.find?_cons] at hf
    cases hpx : p x with
    | true =>
      rw [hpx, Option.some.injEq] at hf
      subst hf
      rcases List.mem_cons.1 hy with rfl | hy
      · exact le_refl _
      · exact (hx y hy).le
    | false =>
      rw [hpx] at hf
      rcases List.mem_cons.1 hy with rfl | hy
      · rw [hpx] at hp
        cases hp
      · exact find_le hs hf y hy hp

theorem cyclicFrom_pairwise (p : Chan) : (cyclicFrom p).Pairwise fun c d => c - (p + 1) < d - (p + 1) := by
  revert p
  decide

theorem mem_cyclicFrom (p c : Chan) : c ∈ cyclicFrom p := by
  revert p c
  decide

/-- The first channel after a pointer in cyclic order that the predicate admits (R33). -/
theorem find_cyclicFrom {q : Chan → Bool} {p : Chan} (hc : q c = true)
    (hb : ∀ d, d - (p + 1) < c - (p + 1) → q d = false) : (cyclicFrom p).find? q = some c := by
  cases hf : (cyclicFrom p).find? q with
  | none => exact absurd hc (List.find?_eq_none.1 hf c (mem_cyclicFrom p c))
  | some d =>
    have hle : d - (p + 1) ≤ c - (p + 1) := find_le (cyclicFrom_pairwise p) hf c (mem_cyclicFrom p c) hc
    have hge : ¬ d - (p + 1) < c - (p + 1) := fun hlt => by
      have hd := List.find?_some hf
      rw [hb d hlt] at hd
      cases hd
    have heq : d - (p + 1) = c - (p + 1) := le_antisymm hle (not_lt.1 hge)
    rw [sub_left_injective heq]

theorem find_cyclicFrom_none {q : Chan → Bool} (p : Chan) (hn : ∀ d, q d = false) : (cyclicFrom p).find? q = none :=
  List.find?_eq_none.2 fun d _ => by simp [hn d]

/-! ### The arbiter -/

/-- A channel that the arbiter may choose: a candidate that can obtain a data tag (R32, R33, R154). -/
def State.ready (s : State) (c : Chan) : Bool := s.candidate c && s.link.dataAvailable c

/-- A channel that runs expedited work (R33). -/
def State.expediting (s : State) (c : Chan) : Bool := (s.ch c).state == .expediting

theorem State.classChoice_eq (s : State) (e : Bool) (p : Chan) :
    s.classChoice e p = (cyclicFrom p).find? fun c => (s.expediting c == e) && s.ready c := by
  unfold State.classChoice State.ready State.expediting
  refine congrArg (List.find? · _) (funext fun c => ?_)
  rw [Bool.and_assoc]

theorem State.classChoice_none {e : Bool} {p : Chan} (hn : ∀ d, (s.ready d && (s.expediting d == e)) = false) :
    s.classChoice e p = none := by
  rw [State.classChoice_eq]
  exact find_cyclicFrom_none p fun d => by rw [Bool.and_comm, hn d]

theorem State.classChoice_some {e : Bool} {p : Chan} (hr : s.ready c = true) (he : s.expediting c = e)
    (hb : ∀ d, d - (p + 1) < c - (p + 1) → (s.ready d && (s.expediting d == e)) = false) : s.classChoice e p = some c := by
  rw [State.classChoice_eq]
  exact find_cyclicFrom (by simp [hr, he]) fun d hd => by rw [Bool.and_comm, hb d hd]

/-- The arbiter chooses a channel that runs expedited work before any other (R33). -/
theorem State.arbiterChoice_expedite (hr : s.ready c = true) (he : s.expediting c = true)
    (hb : ∀ d, d - (s.expeditePtr + 1) < c - (s.expeditePtr + 1) → (s.ready d && s.expediting d) = false) :
    s.arbiterChoice = some (c, { s with expeditePtr := c }) := by
  rw [State.arbiterChoice, State.classChoice_some hr he fun d hd => by rw [beq_true, hb d hd]]

theorem State.arbiterChoice_normal (hr : s.ready c = true) (he : s.expediting c = false)
    (hn : ∀ d, (s.ready d && s.expediting d) = false)
    (hb : ∀ d, d - (s.normalPtr + 1) < c - (s.normalPtr + 1) → s.ready d = false) :
    s.arbiterChoice = some (c, { s with normalPtr := c }) := by
  rw [State.arbiterChoice, State.classChoice_none fun d => by rw [beq_true, hn d],
    State.classChoice_some hr he fun d hd => by rw [hb d hd, Bool.false_and]]

theorem State.arbiterChoice_none (hn : ∀ d, s.ready d = false) : s.arbiterChoice = none := by
  rw [State.arbiterChoice, State.classChoice_none fun d => by rw [hn d, Bool.false_and],
    State.classChoice_none fun d => by rw [hn d, Bool.false_and]]

/-! ### An attempt at a beat -/

/-- An attempt whose first round passes (R93). -/
theorem State.startAttempt_reads (hx : (s.ch c).current = some x) (full : Bool)
    (hr : roundFailure (firstRound (s.ch c).compact (s.ch c).apertures x.image x.beat) = none) :
    let reads := indexAccesses (firstRound (s.ch c).compact (s.ch c).apertures x.image x.beat) x.image
    s.startAttempt c full = { s with
      beat := some
        { chan := c, fullMasked := full, stage := if reads.isEmpty then .source else .index
          accesses := if reads.isEmpty then sourceAccesses (s.ch c).compact x.image x.beat [] else reads
          indices := [], dest := [], conds := 0, acqs := [], touched := [] } } := by
  simp only [State.startAttempt, hx, hr]
  cases (indexAccesses (firstRound (s.ch c).compact (s.ch c).apertures x.image x.beat) x.image).isEmpty <;> rfl

/-- An attempt whose first round fails is an Address fault, and the grant is released at once (R94, R96). -/
theorem State.startAttempt_faults (hx : (s.ch c).current = some x) (full : Bool) (hb : s.beat = none)
    {r : RoundAccess × SubKind × Word64}
    (hr : roundFailure (firstRound (s.ch c).compact (s.ch c).apertures x.image x.beat) = some r) :
    s.startAttempt c full = s.setCh c { s.ch c with pendingFault := some (addressFault (s.ch c) x.beat r.1 r.2.1 r.2.2) } := by
  have hrelease (b : Beat) (hc : b.chan = c) (ha : b.acqs = []) : ({ s with beat := some b } : State).releaseGrant c = s := by
    have hpins (v : State) : v.releasePins b = v := by rw [State.releasePins, ha]; rfl
    simp only [State.releaseGrant, hc, beq_self_eq_true, if_true, hpins]
    rw [← hb]
  simp only [State.startAttempt, hx, hr, State.raiseBeatFault]
  rw [hrelease _ rfl rfl, State.modCh, ← hx]

/-- The fault of a failed access in the first round (R94). -/
theorem addressFault_eq {h : Channel} (hx : h.current = some x) (beat : Nat) (a : RoundAccess) (sub : SubKind)
    (address : Word64) : addressFault h beat a sub address =
      { valid := true, ring := x.ring, location := x.location, kind := .address, sub := sub, phase := .none
        beat := beat, lanes := 1#32 <<< a.lane, conds := 0, stream := if a.entry then .index else a.stream
        address := address } := by
  have hlanes : laneSet [a.lane] = 1#32 <<< a.lane := BitVec.zero_or
  rw [addressFault, Channel.faultRec_eq hx, hlanes]

/-! ### The grant -/

theorem State.grantBeat_busy (hb : s.beat ≠ none) : s.grantBeat = s := if_pos (Option.isSome_iff_ne_none.2 hb)

theorem State.grantBeat_idle (hc : s.arbiterChoice = none) : s.grantBeat = s := by
  rw [State.grantBeat, hc]
  exact ite_self _

theorem State.grantBeat_some (hb : s.beat = none) (hc : s.arbiterChoice = some (c, u)) :
    s.grantBeat = u.startAttempt c ((u.ch c).owedAttempt == .fullMasked) := by
  rw [State.grantBeat, hc, hb]
  rfl

theorem none_of_allChans {q : Chan → Bool} (h : (allChans.all fun d => !q d) = true) (d : Chan) : q d = false := by
  have hd := List.all_eq_true.1 h d (by revert d; decide)
  simpa using hd

/-- No channel that comes before is admitted. -/
theorem none_before_of_allChans {q : Chan → Bool} {r : Chan → Prop} [DecidablePred r]
    (h : (allChans.all fun d => !(q d && decide (r d))) = true) (d : Chan) (hd : r d) : q d = false := by
  have hq := none_of_allChans h d
  rwa [decide_eq_true hd, Bool.and_true] at hq

/-- The conditions of R32 under which a channel is ready, and the tag that R154 grants it. -/
theorem State.ready_eq (s : State) (d : Chan) : s.ready d =
    (decide ((s.ch d).state ∈ [ChState.running, .draining, .expediting]) && (s.ch d).phase == .job &&
      (match (s.ch d).current with
        | some x => descKind x.image == some .operation && decide (x.beat < descBeats x.image) && x.fails.isEmpty
        | none => false) &&
      (s.ch d).pendingFault.isNone && !(s.ch d).heldQuiesce && !(s.ch d).heldFatal &&
      ((s.ch d).claim.isNone || (s.ch d).owedAttempt != .none) &&
      decide (s.link.dataHeld d < 12) && (s.link.freeTag true).isSome) := by
  have hstate : ((s.ch d).state == .running || (s.ch d).state == .draining || (s.ch d).state == .expediting) =
      decide ((s.ch d).state ∈ [ChState.running, .draining, .expediting]) := by
    cases (s.ch d).state <;> rfl
  have hheld : (!(s.ch d).held) = (!(s.ch d).heldQuiesce && !(s.ch d).heldFatal) := Bool.not_or ..
  unfold State.ready State.candidate Link.dataAvailable
  simp only [hstate, hheld, Bool.and_assoc]
  rfl

/-- Settles O42. -/
theorem beatGrant : Obligations.BeatGrant := by
  refine ⟨fun s b x hx => ?_, fun s c x => ?_⟩
  · intro c h v mine
    obtain ⟨u, hv, hchans, hbeat⟩ := s.commit_keeps b x
    have hch (d : Chan) : u.ch d = s.ch d := by rw [State.ch, hchans]; rfl
    refine ⟨?_, fun d hd => ?_, ?_, fun hd hq => ⟨fun n => ?_, ?_⟩⟩
    · rw [show v = _ from hv, State.ch_modCh_same, hch, Channel.committed_eq hx]
    · rw [show v = _ from hv, State.ch_modCh_ne _ hd, hch]
    · rw [show v = _ from hv]
      exact hbeat
    · rw [show v = _ from State.commit_cached (Beat.not_laneBypasses hd hq)]
      exact State.written_line (Beat.not_laneBypasses hd hq) n
    · rw [show v = _ from State.commit_cached (Beat.not_laneBypasses hd hq), s.written_onlySets b x]
      rfl
  · intro ready expediting chosen h u round reads
    have hready : ready = s.ready := funext fun d => (s.ready_eq d).symm
    have hchoice (hc : chosen = true) : s.fresh.arbiterChoice = some (c, u) := by
      simp only [chosen, hready, Bool.and_eq_true] at hc
      obtain ⟨hrc, hc⟩ := hc
      cases he : s.expediting c with
      | true =>
        rw [if_pos (show expediting c = true from he)] at hc
        rw [show u = { s.fresh with expeditePtr := c } from if_pos he]
        exact State.arbiterChoice_expedite hrc he (none_before_of_allChans hc)
      | false =>
        have he' : ¬ expediting c = true := Bool.eq_false_iff.1 he
        rw [if_neg he', Bool.and_eq_true] at hc
        rw [show u = { s.fresh with normalPtr := c } from if_neg he']
        obtain ⟨hn, hb⟩ := hc
        exact State.arbiterChoice_normal hrc he (none_of_allChans hn) (none_before_of_allChans hb)
    have hubeat : u.beat = s.beat := by simp only [u]; split <;> rfl
    have huch : u.ch c = s.ch c := by simp only [u]; split <;> rfl
    rw [exec_beatGrant, execBeatGrant, show s.begin = s.fresh from rfl]
    refine ⟨fun hb => ?_, fun hb hn => ?_, fun hb hc hx hr => ?_, fun hb hc hx r hr => ?_⟩
    · rw [State.grantBeat_busy (by exact hb)]
    · rw [State.grantBeat_idle (State.arbiterChoice_none fun d => by rw [← hn d, hready]; rfl)]
    · rw [State.grantBeat_some (by exact hb) (hchoice hc), State.startAttempt_reads (by rw [huch]; exact hx) _
        (by rw [huch]; exact hr), huch]
    · rw [State.grantBeat_some (by exact hb) (hchoice hc), State.startAttempt_faults (by rw [huch]; exact hx) _
        (hubeat.trans hb) (by rw [huch]; exact hr), huch, addressFault_eq hx]

end Sys2Proof.Machine
end

section
/-! PROOF. The integer and the logical lanes of the numeric unit (R35, R47, R48, R58). -/
namespace Sys2Proof.Machine
variable {ctx : NumCtx} {j : LaneJob} {f : Format} {a b c : Nat}

/-! ### Elements of an integer format -/

theorem Format.isFloat_of_isWrap (h : f.isWrap = true) : f.isFloat = false := by
  obtain ⟨family, size⟩ := f
  cases family with
  | float => exact absurd h Bool.false_ne_true
  | signedWrap | unsignedWrap | signedSat | unsignedSat => rfl

/-- The formats of Table 2-1 have at least one byte. -/
theorem Format.bits_pos (h : f.size ∈ [1, 2, 4, 8]) : 0 < f.bits := by
  have hsize : 0 < f.size := Nat.pos_of_ne_zero fun h0 => by rw [h0] at h; exact absurd h (by decide)
  unfold Format.bits
  omega

/-- The two halves of a format's elements: those whose top bit is clear and those whose top bit is set. -/
theorem Format.halves (h : 0 < f.bits) : 2 ^ f.bits = 2 ^ (f.bits - 1) + 2 ^ (f.bits - 1) :=
  (Nat.two_pow_pred_add_two_pow_pred h).symm

theorem Format.value_unsigned (h : f.isSigned = false) : f.value a = a := by
  rw [Format.value, h, Bool.false_and, if_neg Bool.false_ne_true]

theorem Format.value_signed (h : f.isSigned = true) :
    f.value a = if a < 2 ^ (f.bits - 1) then (a : Int) else (a : Int) - (2 ^ f.bits : Nat) := by
  rw [Format.value, h, Bool.true_and]
  by_cases ha : a < 2 ^ (f.bits - 1)
  · rw [if_pos ha, if_neg (by simpa using ha)]
  · rw [if_neg ha, if_pos (by simpa using ha)]

/-- Every element of a format has its value in the format's range (Table 2-1). -/
theorem Format.value_mem_range (hn : 0 < f.bits) (ha : a < 2 ^ f.bits) :
    f.minValue ≤ f.value a ∧ f.value a ≤ f.maxValue := by
  have hhalves := f.halves hn
  cases hs : f.isSigned with
  | false =>
    rw [f.value_unsigned hs, Format.minValue, Format.maxValue, hs]
    simp only [Bool.false_eq_true, if_false]
    omega
  | true =>
    rw [f.value_signed hs, Format.minValue, Format.maxValue, hs]
    simp only [if_true]
    split <;> omega

theorem Format.wrap_lt (f : Format) (x : Int) : f.wrap x < 2 ^ f.bits := by
  have hpos : (0 : Int) < (2 ^ f.bits : Nat) := Int.natCast_pos.2 (Nat.two_pow_pos _)
  have hlt := Int.emod_lt_of_pos x hpos
  unfold Format.wrap
  omega

theorem Format.wrap_of_nonneg {x : Int} (h0 : 0 ≤ x) (hx : x < (2 ^ f.bits : Nat)) : f.wrap x = x.toNat := by
  rw [Format.wrap, Int.emod_eq_of_lt h0 hx]

theorem Format.wrap_of_neg {x : Int} (h0 : x < 0) (hx : -(2 ^ f.bits : Nat) ≤ x) :
    f.wrap x = (x + (2 ^ f.bits : Nat)).toNat := by
  rw [Format.wrap, ← Int.add_emod_right, Int.emod_eq_of_lt (by omega) (by omega)]

/-- A value in a format's range is kept when it is stored and read back (R35). -/
theorem Format.value_wrap {x : Int} (hn : 0 < f.bits) (hlo : f.minValue ≤ x) (hhi : x ≤ f.maxValue) :
    f.value (f.wrap x) = x := by
  have hhalves := f.halves hn
  cases hs : f.isSigned with
  | false =>
    simp only [Format.minValue, Format.maxValue, hs, Bool.false_eq_true, if_false] at hlo hhi
    rw [f.value_unsigned hs, f.wrap_of_nonneg hlo (by omega), Int.toNat_of_nonneg hlo]
  | true =>
    simp only [Format.minValue, Format.maxValue, hs, if_true] at hlo hhi
    rw [f.value_signed hs]
    by_cases h0 : 0 ≤ x
    · rw [f.wrap_of_nonneg h0 (by omega), if_pos (by omega), Int.toNat_of_nonneg h0]
    · rw [f.wrap_of_neg (by omega) (by omega), if_neg (by omega), Int.toNat_of_nonneg (by omega)]
      omega

/-- The negation of the most negative value is out of range by one, and wraps back to that value (R35, R47). -/
theorem Format.value_wrap_neg_minValue (hn : 0 < f.bits) (hs : f.isSigned = true) :
    f.value (f.wrap (-f.minValue)) = f.minValue := by
  have hhalves := f.halves hn
  have hpos : 0 < 2 ^ (f.bits - 1) := Nat.two_pow_pos _
  have hmin : f.minValue = -(2 ^ (f.bits - 1) : Nat) := by rw [Format.minValue, hs, if_pos rfl]
  rw [hmin, Int.neg_neg, f.wrap_of_nonneg (by omega) (by omega), Int.toNat_natCast, f.value_signed hs,
    if_neg (by omega)]
  omega

/-! ### The quotient toward zero -/

/-- A truncated quotient stays in the range of an `m`-symmetric two's complement format, but for `-m / -1`. -/
theorem tdiv_mem_symmetric {x y : Int} {m : Nat} (hlo : -m ≤ x) (hhi : x < m) (hwrap : x ≠ -m ∨ y ≠ -1) :
    -m ≤ x.tdiv y ∧ x.tdiv y < m := by
  have hle := Int.natAbs_tdiv_le_natAbs x y
  refine ⟨by omega, Int.not_le.1 fun hge => ?_⟩
  have hx : x = -m := by omega
  have hone : y.natAbs ≤ 1 := Nat.not_lt.1 fun hy => by
    have hlt : x.natAbs.div y.natAbs < x.natAbs := Nat.div_lt_self (by omega) hy
    rw [← Int.natAbs_tdiv] at hlt
    omega
  obtain rfl | rfl : y = 0 ∨ y = 1 := by omega
  · rw [Int.tdiv_zero] at hge; omega
  · rw [Int.tdiv_one] at hge; omega

/-- The quotient of two elements is in their format's range, but for the most negative value divided by -1 (R47). -/
theorem Format.tdiv_mem_range (hn : 0 < f.bits) (ha : a < 2 ^ f.bits)
    (hwrap : f.value a ≠ f.minValue ∨ f.value b ≠ -1) :
    f.minValue ≤ (f.value a).tdiv (f.value b) ∧ (f.value a).tdiv (f.value b) ≤ f.maxValue := by
  obtain ⟨hlo, hhi⟩ := f.value_mem_range hn ha
  cases hs : f.isSigned with
  | false =>
    have hle : a / b ≤ a := Nat.div_le_self a b
    rw [f.value_unsigned hs, f.value_unsigned hs, ← Int.ofNat_tdiv, Format.minValue, Format.maxValue, hs]
    simp only [Bool.false_eq_true, if_false]
    generalize a / b = q at hle
    omega
  | true =>
    simp only [Format.minValue, Format.maxValue, hs, if_true] at hlo hhi hwrap ⊢
    have hq := tdiv_mem_symmetric hlo (by omega) hwrap
    omega

/-! ### Lanes without a condition -/

@[simp] theorem LaneOut.plain_pre (v : Nat) : (LaneOut.plain v).pre = 0 := rfl
@[simp] theorem LaneOut.plain_post (v : Nat) : (LaneOut.plain v).post = 0 := rfl
@[simp] theorem LaneOut.plain_value (v : Nat) : (LaneOut.plain v).value = v := rfl

/-- No condition, no flag (R77). -/
theorem acwSetFlags_zero (acw : Word32) : acwSetFlags acw 0 = acw := by
  rw [acwSetFlags, show (0 : CondSet).setWidth 32 = 0#32 from rfl, BitVec.or_zero]

/-! ### Integer Divide -/

theorem evalLane_divide (hop : j.op = .divide) (hj : j.src.isWrap = true) :
    evalLane ctx j a b c = intDivLane j.src a b := by
  simp only [evalLane, hop, j.src.isFloat_of_isWrap hj, Bool.false_eq_true, if_false]

theorem intDivLane_zero : intDivLane f a 0 = { pre := condDZ, post := 0, value := 0 } := rfl

theorem intDivLane_nonzero (hb : b ≠ 0) : intDivLane f a b = .plain (f.wrap ((f.value a).tdiv (f.value b))) := by
  rw [intDivLane, if_neg (by simpa using hb)]

/-- An unsigned quotient is the quotient of the elements. -/
theorem Format.wrap_tdiv_unsigned (hs : f.isSigned = false) (ha : a < 2 ^ f.bits) :
    f.wrap ((f.value a).tdiv (f.value b)) = a / b := by
  rw [f.value_unsigned hs, f.value_unsigned hs, ← Int.ofNat_tdiv, f.wrap_of_nonneg (Int.natCast_nonneg _)
    (Int.ofNat_lt.2 (Nat.lt_of_le_of_lt (Nat.div_le_self a b) ha)), Int.toNat_natCast]

/-- Settles O55. -/
theorem integerDivide : Obligations.IntegerDivide := by
  intro ctx j a b c hop hj hsize ha _ r
  have hn := j.src.bits_pos hsize
  have hr : r = intDivLane j.src a b := evalLane_divide hop hj
  have hi32 (x y : Nat) : evalLane ctx { j with src := ⟨.signedWrap, 4⟩ } x y c = intDivLane ⟨.signedWrap, 4⟩ x y :=
    evalLane_divide hop rfl
  refine ⟨fun hb => ?_, fun hb => ?_, ?_⟩
  · rw [hr, hb, intDivLane_zero]
    exact ⟨rfl, rfl, rfl⟩
  · rw [hr, intDivLane_nonzero hb]
    refine ⟨rfl, rfl, j.src.wrap_lt _, fun hs => j.src.wrap_tdiv_unsigned hs ha, fun hwrap => ?_, fun hs hmin hneg => ?_⟩
    · obtain ⟨hlo, hhi⟩ := j.src.tdiv_mem_range hn ha hwrap
      exact j.src.value_wrap hn hlo hhi
    · rw [LaneOut.plain_value, hmin, hneg, Int.tdiv_neg, Int.tdiv_one, j.src.value_wrap_neg_minValue hn hs]
  · rw [hi32, hi32, hi32]
    decide

/-! ### Integer Min and Max -/

theorem evalLane_min (hop : j.op = .min) (hj : j.src.isWrap = true) :
    evalLane ctx j a b c = .plain (intMinMax j.src false a b) := by
  simp only [evalLane, hop, j.src.isFloat_of_isWrap hj, Bool.false_eq_true, if_false]

theorem evalLane_max (hop : j.op = .max) (hj : j.src.isWrap = true) :
    evalLane ctx j a b c = .plain (intMinMax j.src true a b) := by
  simp only [evalLane, hop, j.src.isFloat_of_isWrap hj, Bool.false_eq_true, if_false]

/-- Min and Max deliver one of the two sources (R48). -/
theorem intMinMax_eq_or (f : Format) (isMax : Bool) (a b : Nat) :
    intMinMax f isMax a b = a ∨ intMinMax f isMax a b = b := by
  unfold intMinMax
  cases isMax <;> split <;> simp

theorem value_intMin (f : Format) (a b : Nat) : f.value (intMinMax f false a b) = min (f.value a) (f.value b) := by
  unfold intMinMax
  by_cases h : f.value a ≤ f.value b
  · rw [if_pos h, if_neg Bool.false_ne_true, min_eq_left h]
  · rw [if_neg h, if_neg Bool.false_ne_true, min_eq_right (Int.le_of_not_le h)]

theorem value_intMax (f : Format) (a b : Nat) : f.value (intMinMax f true a b) = max (f.value a) (f.value b) := by
  unfold intMinMax
  by_cases h : f.value a ≤ f.value b
  · rw [if_pos h, if_pos rfl, max_eq_right h]
  · rw [if_neg h, if_pos rfl, max_eq_left (Int.le_of_not_le h)]

/-- Settles O56. -/
theorem integerMinMax : Obligations.IntegerMinMax := by
  intro ctx j a b c hj _ _ _
  refine ⟨fun hop => ?_, fun hop => ?_, fun hs => j.src.value_unsigned hs, fun hs => ?_, fun hop => ?_⟩
  · rw [evalLane_min hop hj]
    exact ⟨rfl, rfl, intMinMax_eq_or .., value_intMin ..⟩
  · rw [evalLane_max hop hj]
    exact ⟨rfl, rfl, intMinMax_eq_or .., value_intMax ..⟩
  · rw [j.src.value_signed hs, Nat.cast_pow, Nat.cast_ofNat]
  · have hlane (g : Format) (hg : g.isWrap = true) :
        evalLane ctx { j with src := g } 0xFF 1 c = .plain (intMinMax g false 0xFF 1) := evalLane_min hop hg
    rw [hlane _ rfl, hlane _ rfl]
    decide

/-! ### And, Or, Xor and AndNot -/

theorem evalLane_and (hop : j.op = .and) : evalLane ctx j a b c = .plain (a &&& b) := by
  simp only [evalLane, hop]

theorem evalLane_or (hop : j.op = .or) : evalLane ctx j a b c = .plain (a ||| b) := by
  simp only [evalLane, hop]

theorem evalLane_xor (hop : j.op = .xor) : evalLane ctx j a b c = .plain (a ^^^ b) := by
  simp only [evalLane, hop]

theorem evalLane_andNot (hop : j.op = .andNot) :
    evalLane ctx j a b c = .plain (a &&& (b ^^^ (2 ^ j.src.bits - 1))) := by
  simp only [evalLane, hop]

/-- No logical operation raises a condition (R58). -/
theorem evalLane_logical_plain (hop : j.op ∈ [.and, .or, .xor, .andNot]) : ∃ v, evalLane ctx j a b c = .plain v := by
  simp only [List.mem_cons, List.not_mem_nil, or_false] at hop
  obtain hop | hop | hop | hop := hop
  · exact ⟨_, evalLane_and hop⟩
  · exact ⟨_, evalLane_or hop⟩
  · exact ⟨_, evalLane_xor hop⟩
  · exact ⟨_, evalLane_andNot hop⟩

/-- Above the element both sides are 0, since `a` has no bit there. -/
theorem testBit_and_complement {n : Nat} (ha : a < 2 ^ n) (i : Nat) :
    (a &&& (b ^^^ (2 ^ n - 1))).testBit i = (a.testBit i && !b.testBit i) := by
  rw [Nat.testBit_and, Nat.testBit_xor, Nat.testBit_two_pow_sub_one]
  by_cases hi : i < n
  · rw [decide_eq_true hi, Bool.xor_true]
  · have hlt : a < 2 ^ i := Nat.lt_of_lt_of_le ha (Nat.pow_le_pow_right (by decide) (Nat.le_of_not_lt hi))
    rw [Nat.testBit_lt_two_pow hlt, Bool.false_and, Bool.false_and]

/-- Settles O57. -/
theorem logicalLanes : Obligations.LogicalLanes := by
  intro ctx j a b c i acw flags ha _ r hop
  obtain ⟨v, hv⟩ : ∃ v, r = .plain v := evalLane_logical_plain hop
  have hnone : r.pre ||| r.post = 0 := by rw [hv]; exact BitVec.or_self
  refine ⟨by rw [hv]; rfl, by rw [hv]; rfl, by rw [hnone, acwSetFlags_zero], by rw [hnone]; exact BitVec.or_zero, ?_⟩
  refine ⟨fun hop => ?_, fun hop => ?_, fun hop => ?_, fun hop => ?_⟩
  · rw [show r = _ from evalLane_and hop, LaneOut.plain_value, Nat.testBit_and]
  · rw [show r = _ from evalLane_or hop, LaneOut.plain_value, Nat.testBit_or]
  · rw [show r = _ from evalLane_xor hop, LaneOut.plain_value, Nat.testBit_xor]
  · rw [show r = _ from evalLane_andNot hop, LaneOut.plain_value, testBit_and_complement ha]

end Sys2Proof.Machine
end

section
/-! PROOF. The channels through what works only on the cache, the link, the beat or the power controller: none of it
touches a channel.  One lemma per function of the model whose cases have to be told apart, in the order of the model;
`∀ t ∈ f s, …` where it makes a state only sometimes. -/
namespace Sys2Proof.Machine
variable {s : State}

/-- What every change keeps, changes tried in turn keep. -/
theorem tryEach_keeps {α β : Type} {p : State → β} {f : State → α → Option State}
    (hf : ∀ s a, ∀ t ∈ f s a, p t = p s) (xs : List α) (s : State) : ∀ t ∈ tryEach f s xs, p t = p s := by
  intro t ht
  unfold tryEach at ht
  dsimp only at ht
  split at ht
  · rw [← Option.some.inj ht]
    refine foldl_keeps (p := fun acc : State × Bool => p acc.1) (fun acc a => ?_) xs (s, false)
    split
    · next u hu => exact hf acc.1 a u hu
    · rfl
  · cases ht

theorem State.issueEvent_chans (t : TagId) (r : Req) : (s.issueEvent t r).chans = s.chans := by
  unfold State.issueEvent
  split
  · rfl
  · split <;> rfl

/-! ### The cache at work for a beat -/

@[simp] theorem State.evictIfDirty_chans (i : SetId) (w : CacheWay) (upper : Bool) (sweep : Option Nat) :
    (s.evictIfDirty i w upper sweep).chans = s.chans := by
  unfold State.evictIfDirty
  dsimp only
  split <;> rfl

theorem State.takeWay_chans (n : Nat) : ∀ t ∈ s.takeWay n, t.chans = s.chans := by
  unfold State.takeWay
  dsimp only
  split
  · simp
  · split
    · simp
    · rintro t ⟨⟩
      simp

@[simp] theorem State.touchOnce_chans (i : SetId) (w : WayId) : (s.touchOnce i w).chans = s.chans := by
  unfold State.touchOnce
  split
  · split <;> rfl
  · rfl

@[simp] theorem State.noteTouched_chans (n : Nat) : (s.noteTouched n).chans = s.chans := by
  unfold State.noteTouched
  split <;> rfl

@[simp] theorem State.askFill_chans (c : Chan) (n : Nat) (kind : ReqKind) (purpose : Purpose) :
    (s.askFill c n kind purpose).chans = s.chans := rfl
@[simp] theorem State.setAccess_chans (i : Nat) (x : AccessState) : (s.setAccess i x).chans = s.chans := rfl
@[simp] theorem State.pin_chans (n : Nat) : (s.pin n).chans = s.chans := rfl
@[simp] theorem State.setAcq_chans (n : Nat) (x : AcqState) : (s.setAcq n x).chans = s.chans := rfl
@[simp] theorem State.dropUpgrade_chans (n : Nat) : (s.dropUpgrade n).chans = s.chans := rfl

/-- What is done with a way that has been taken. -/
theorem State.takeWay_map_chans (n : Nat) {f : State → State} (hf : ∀ u, (f u).chans = u.chans) :
    ∀ t ∈ (s.takeWay n).map f, t.chans = s.chans := by
  intro t ht
  obtain ⟨u, hu, rfl⟩ := Option.mem_map.1 ht
  exact (hf u).trans (s.takeWay_chans n u hu)

theorem State.readCached_chans (c : Chan) (i : Nat) (a : Access) : ∀ t ∈ s.readCached c i a, t.chans = s.chans := by
  unfold State.readCached
  dsimp only
  split
  · split
    · rintro t ⟨⟩
      simp
    · split
      · rintro t ⟨⟩
        simp
      · split
        · simp
        · rintro t ⟨⟩
          simp
  · exact State.takeWay_map_chans _ fun u => by simp

theorem State.readDirect_chans (c : Chan) (i : Nat) (a : Access) : (s.readDirect c i a).chans = s.chans := by
  unfold State.readDirect
  extract_lets n mark ask
  have hask : (ask s).chans = s.chans := by
    dsimp only [ask]
    split <;> rfl
  split
  · split
    · rfl
    · exact hask
  · exact hask

theorem State.readOne_chans (c : Chan) (i : Nat) : ∀ t ∈ s.readOne c i, t.chans = s.chans := by
  unfold State.readOne
  split
  · simp
  · split
    · simp
    · split
      · exact s.readCached_chans c i _
      · rintro t ⟨⟩
        exact s.readDirect_chans c i _

theorem State.readPass_chans (c : Chan) : ∀ t ∈ s.readPass c, t.chans = s.chans := by
  unfold State.readPass
  split
  · simp
  · exact tryEach_keeps (p := State.chans) (fun s i => s.readOne_chans c i) _ _

theorem State.fillData_chans (r : Req) (state : LineState) (bytes : Line) :
    (s.fillData r state bytes).chans = s.chans := by
  unfold State.fillData State.considerPrefetch
  dsimp only
  split
  · split <;> rfl
  · rfl

theorem State.acquireOne_chans (c : Chan) (q : Acq) : ∀ t ∈ s.acquireOne c q, t.chans = s.chans := by
  unfold State.acquireOne
  extract_lets n waits x
  split
  · simp
  · split
    · extract_lets l pinned s'
      have hp : ∀ t ∈ pinned, t.chans = s.chans := by
        dsimp only [pinned]
        split
        · simp
        · rintro t ⟨⟩
          split <;> simp
      have hs' : s'.chans = s.chans := by
        dsimp only [s']
        cases h : pinned with
        | none => rfl
        | some t => exact hp t h
      split
      · exact hp
      · split
        · split
          · exact hp
          · rintro t ⟨⟩
            simpa using hs'
        · rintro t ⟨⟩
          split <;> simpa using hs'
    · split
      · rintro t ⟨⟩
        simp
      · exact State.takeWay_map_chans _ fun u => by simp

theorem State.acquirePass_chans (c : Chan) : ∀ t ∈ s.acquirePass c, t.chans = s.chans := by
  unfold State.acquirePass
  split
  · simp
  · refine tryEach_keeps (p := State.chans) (fun s q => ?_) _ _
    split
    · exact s.acquireOne_chans c _
    · simp

/-! ### Requests given up -/

theorem State.orphan_chans (p : Req → Bool) : (s.orphan p).chans = s.chans := by
  rw [State.orphan_rest]

theorem State.releaseGrant_chans (c : Chan) : (s.releaseGrant c).chans = s.chans := by
  rw [State.releaseGrant_eq]

theorem State.discardBeat_chans (c : Chan) : (s.discardBeat c).chans = s.chans := by
  rw [State.discardBeat_rest]

theorem State.abandonAll_chans (c : Chan) (p : Req → Bool) : (s.abandonAll c p).chans = s.chans := by
  rw [State.abandonAll_rest]

/-! ### Sweeps and the power controller -/

@[simp] theorem State.sweepLine_chans (sweep : Sweep) (i : SetId) (w : WayId) (upper : Bool) :
    (s.sweepLine sweep i w upper).chans = s.chans := by
  unfold State.sweepLine
  dsimp only
  split
  · split <;> rfl
  all_goals
    split
    · rfl
    · split
      · rfl
      · split <;> rfl

theorem State.sweepNext_chans : s.sweepNext.chans = s.chans := by
  unfold State.sweepNext
  split
  · rfl
  · dsimp only
    split
    · rfl
    · rw [State.modCache_chans, foldl_keeps (p := State.chans) fun _ _ => by simp]

theorem State.endCommandSweep_chans : ∀ t ∈ s.endCommandSweep, t.chans = s.chans := by
  unfold State.endCommandSweep
  split
  · rintro t ⟨⟩
    rfl
  · simp

theorem State.dormantNext_chans : ∀ t ∈ s.dormantNext, t.chans = s.chans := by
  unfold State.dormantNext
  split
  · simp
  · split
    · rintro t ⟨⟩
      rfl
    · simp
  · split
    · split <;> rintro t ⟨⟩ <;> rfl
    · simp
  · split
    · rintro t ⟨⟩
      rfl
    · split
      · rintro t ⟨⟩
        rfl
      · simp

theorem State.quiescingDone_chans : ∀ t ∈ s.quiescingDone, t.chans = s.chans := by
  unfold State.quiescingDone
  split
  · rintro t ⟨⟩
    rfl
  · simp

theorem State.counted_chans : s.counted.chans = s.chans := by
  rw [State.counted, State.tickDoze_eq, State.tickTags_eq _ _ nodup_allTags]
  rfl

/-! ### Probes, event records and registers of the device -/

theorem State.writeDone_chans (r : Req) : (s.writeDone r).chans = s.chans := by
  unfold State.writeDone
  split
  · split <;> rfl
  · split <;> rfl
  · rfl

theorem State.probe_chans (address : Word64) (invalidate : Bool) : (s.probe address invalidate).chans = s.chans := by
  unfold State.probe
  dsimp only
  split
  · rfl
  · split
    · rfl
    · split
      · rfl
      · split
        · rfl
        · split <;> rfl

theorem State.writeEvent_chans : s.writeEvent.chans = s.chans := by
  unfold State.writeEvent
  dsimp only
  split <;> rfl

theorem State.writeEventSize_chans (v : Word32) : (s.writeEventSize v).chans = s.chans := by
  unfold State.writeEventSize
  split
  · rfl
  · dsimp only
    split <;> rfl

theorem State.writeEventBase_chans (half : Half) (v : Word32) : (s.writeEventBase half v).chans = s.chans := by
  unfold State.writeEventBase
  split <;> rfl

theorem State.writeEventHead_chans (v : Word32) : (s.writeEventHead v).chans = s.chans := by
  unfold State.writeEventHead
  split <;> rfl

theorem State.writeCacheControl_chans (v : Word32) : (s.writeCacheControl v).chans = s.chans := by
  unfold State.writeCacheControl
  split
  · split <;> rfl
  · rfl

end Sys2Proof.Machine
end

section
/-! PROOF. The ACWs and their shadows (R60, R61, R63, R118, R122): no action of the part and no command puts a 1 where the
ACW Capability Mask has a 0 (O7).  Here the operations on a word, those on a channel, and the rules for a state of which
no channel changes, or one. -/
namespace Sys2Proof.Machine
variable {s : State} {c : Chan} {h : Channel}

/-! ### Words -/

/-- A legal value, bit by bit (R60). -/
theorem acwLegal_iff (v : Word32) : acwLegal v = true ↔ ∀ i : Fin 32, v[i.val] = true → (0x000F7F7F#32)[i.val] = true := by
  have hbit (i : Nat) (hi : i < 32) : (v &&& ~~~Config.acwMask)[i] = (v[i] && !(0x000F7F7F#32)[i]) := by
    rw [BitVec.getElem_and, BitVec.getElem_not]
    rfl
  rw [acwLegal, beq_iff_eq]
  constructor
  · intro hz i hi
    have hb := hbit i.val i.isLt
    rw [hz, hi] at hb
    simpa using hb.symm
  · intro hsub
    refine BitVec.eq_of_getElem_eq fun i hi => ?_
    rw [hbit i hi]
    cases hv : v[i] with
    | false => simp
    | true => simp [hsub ⟨i, hi⟩ hv]

/-- The places of the sticky flags are bits of the capability mask (R59, R60). -/
theorem getElem_acwMask_flag : ∀ i : Fin 7, (0x000F7F7F#32)[i.val] = true := by decide

/-- Conditions set sticky flags only (R77). -/
theorem acwLegal_setFlags {acw : Word32} (ha : acwLegal acw = true) (conds : CondSet) :
    acwLegal (acwSetFlags acw conds) = true := by
  rw [acwLegal_iff] at ha ⊢
  intro i hi
  rw [acwSetFlags, BitVec.getElem_or, Bool.or_eq_true] at hi
  obtain hi | hi := hi
  · exact ha i hi
  · have hlt : i.val < 7 := by
      by_contra hge
      rw [BitVec.getElem_setWidth, BitVec.getLsbD_of_ge _ _ (Nat.le_of_not_lt hge)] at hi
      exact Bool.false_ne_true hi
    exact getElem_acwMask_flag ⟨i, hlt⟩

/-- An update mask that passes the Control check picks bits of the capability mask only (R63). -/
theorem acwLegal_update {acw : Word32} (ha : acwLegal acw = true) {mask : Nat} (hlt : mask < 2 ^ 64)
    (hm : updateMaskLegal mask = true) (imm : Nat) :
    acwLegal (acwUpdate acw (BitVec.ofNat 32 mask) (BitVec.ofNat 32 imm)) = true := by
  rw [acwLegal_iff] at ha ⊢
  intro i hi
  rw [acwUpdate_getElem] at hi
  split at hi
  · next hb =>
    rw [BitVec.getElem_eq_testBit_toNat]
    exact (updateMaskLegal_iff hlt).1 hm i.val hb
  · exact ha i hi

/-- The last check of a restored block (R118). -/
theorem acwLegal_csbAcw {b : CsbImage} (hb : csbCheck h b = none) : acwLegal (csbAcw b) = true := by
  by_contra hn
  have hlast : (if !acwLegal (csbAcw b) then some ErrCause.acwInvalid else none) ≠ none := by simp [hn]
  unfold csbCheck at hb
  iterate 6
    split at hb
    · cases hb
  exact hlast hb

/-! ### Channels -/

/-- The ACW of a channel and its shadow, where it has one, lie within the capability mask (R60). -/
def Channel.AcwsLegal (h : Channel) : Prop := acwLegal h.acw = true ∧ ∀ v, h.shadow = some v → acwLegal v = true

/-- The ACW of a channel, and its shadow where it has one (R122). -/
def Channel.acws (h : Channel) : Word32 × Option Word32 := (h.acw, h.shadow)

/-- A channel without a shadow. -/
theorem Channel.AcwsLegal.of_none (ha : acwLegal h.acw = true) (hs : h.shadow = none) : h.AcwsLegal :=
  ⟨ha, fun _ e => nomatch hs.symm.trans e⟩

theorem Channel.AcwsLegal.reset : Channel.reset.AcwsLegal := .of_none (by decide) rfl

theorem Channel.AcwsLegal.afterReset (h : Channel) : h.afterReset.AcwsLegal := Channel.AcwsLegal.reset

theorem Channel.AcwsLegal.softInit (k : h.AcwsLegal) : h.softInit.AcwsLegal := .of_none k.1 rfl

theorem Channel.AcwsLegal.addFlags (k : h.AcwsLegal) (conds : CondSet) : (h.addFlags conds).AcwsLegal :=
  ⟨acwLegal_setFlags k.1 conds, k.2⟩

theorem Channel.AcwsLegal.committed (k : h.AcwsLegal) (conds : CondSet) : (h.committed conds).AcwsLegal :=
  k.addFlags conds

/-- The shadow is a copy of the live ACW (R122). -/
theorem Channel.AcwsLegal.enterExpediting (k : h.AcwsLegal) (origin : ExpFrom) : (h.enterExpediting origin).AcwsLegal :=
  ⟨k.1, fun _ e => Option.some.inj e ▸ k.1⟩

theorem Channel.AcwsLegal.takeShadow (k : h.AcwsLegal) : h.takeShadow.AcwsLegal := by
  refine .of_none ?_ rfl
  show acwLegal (h.shadow.getD h.acw) = true
  cases hs : h.shadow with
  | none => exact k.1
  | some v => exact k.2 v hs

theorem Channel.AcwsLegal.takeContext (k : h.AcwsLegal) {b : CsbImage} (hb : acwLegal (csbAcw b) = true) :
    (h.takeContext b).AcwsLegal := ⟨hb, k.2⟩

theorem Channel.AcwsLegal.writeAcw (k : h.AcwsLegal) (v : Word32) : (h.writeAcw v).AcwsLegal := by
  unfold Channel.writeAcw
  split
  · exact k
  · split
    · exact k
    · next hv => exact ⟨by simpa using hv, k.2⟩

/-- A channel with the ACW and the shadow of another. -/
theorem Channel.AcwsLegal.of_same (k : h.AcwsLegal) {l : Channel} (hl : l.acws = h.acws) : l.AcwsLegal := by
  obtain ⟨ha, hsh⟩ := Prod.mk.inj hl
  unfold Channel.AcwsLegal
  rwa [ha, hsh]

/-! ### States -/

theorem State.acwsLegal_iff : s.AcwsLegal ↔ ∀ c, (s.ch c).AcwsLegal := .rfl

theorem State.reset_ch (c : Chan) : State.reset.ch c = .reset := by simp [State.ch, State.reset]

namespace State.AcwsLegal
variable (hs : s.AcwsLegal)
include hs

/-- The channels are the same. -/
theorem of_chans {t : State} (hc : t.chans = s.chans) : t.AcwsLegal := State.acwsLegal_iff.2 fun d => by
  rw [State.ch_congr hc]
  exact hs d

theorem setCh {x : Channel} (hx : x.AcwsLegal) : (s.setCh c x).AcwsLegal := State.acwsLegal_iff.2 fun d => by
  rw [State.ch_setCh]
  split
  · exact hx
  · exact hs d

/-- A change of one channel that keeps its ACW and its shadow legal. -/
theorem modCh {f : Channel → Channel} (hf : ∀ h : Channel, h.AcwsLegal → (f h).AcwsLegal) : (s.modCh c f).AcwsLegal :=
  hs.setCh (hf _ (hs c))

/-- A change of one channel that leaves its ACW and its shadow. -/
theorem modCh_same {f : Channel → Channel} (hf : ∀ h, (f h).acws = h.acws) : (s.modCh c f).AcwsLegal :=
  hs.modCh fun h k => k.of_same (hf h)

end State.AcwsLegal
end Sys2Proof.Machine
end

section
/-! PROOF. The ACWs through everything the part does of its own accord (log 6): one lemma per function of the model that
changes a channel, in the order of the model; `∀ t ∈ f s, …` where it makes a state only sometimes. -/
namespace Sys2Proof.Machine.State.AcwsLegal
variable {s : State} {c : Chan} (hs : s.AcwsLegal)

/-! ### Changes made in turn -/

theorem foldl {α : Type} {g : State → α → State} (hg : ∀ (s : State) a, s.AcwsLegal → (g s a).AcwsLegal) :
    ∀ (xs : List α) {s : State}, s.AcwsLegal → (xs.foldl g s).AcwsLegal
  | [], _, hs => hs
  | x :: xs, _, hs => foldl hg xs (hg _ x hs)

include hs

theorem forChans {f : Chan → State → State} (hf : ∀ c (s : State), s.AcwsLegal → (f c s).AcwsLegal) :
    (s.forChans f).AcwsLegal := foldl (fun s c => hf c s) _ hs

theorem post (v : Event) : (s.post v).AcwsLegal := hs.of_chans rfl

theorem ask (r : Req) : (s.ask r).AcwsLegal := hs.of_chans rfl

theorem modCache (f : Cache → Cache) : (s.modCache f).AcwsLegal := hs.of_chans rfl

omit hs in
/-- What is made of a value, if there is one. -/
theorem map {α : Type} {f : α → State} (hf : ∀ a, (f a).AcwsLegal) (o : Option α) : ∀ t ∈ o.map f, t.AcwsLegal := by
  intro t ht
  obtain ⟨a, -, rfl⟩ := Option.mem_map.1 ht
  exact hf a

/-! ### The link -/

theorem deliverRead (r : Req) (bytes : Line) : (s.deliverRead r bytes).AcwsLegal := by
  unfold State.deliverRead
  split
  · exact hs
  · split
    · exact hs.of_chans rfl
    · refine hs.modCh fun h k => ?_
      split
      · exact k
      · exact k
    · exact hs.modCh_same fun _ => by rfl
    · exact hs

theorem issueRecord (t : TagId) (c : Chan) (r : Req) : (s.issueRecord t c r).AcwsLegal := by
  have hissued : (if r.orphan then s else s.modCh c Channel.recordIssued).AcwsLegal := by
    split
    · exact hs
    · refine hs.modCh fun h k => ?_
      unfold Channel.recordIssued
      split
      · exact k
      · exact k
  unfold State.issueRecord
  dsimp only
  split
  · exact hissued.of_chans rfl
  · exact hissued.of_chans rfl

theorem takeFor (r : Req) : (s.takeFor r).AcwsLegal := by
  unfold State.takeFor
  split
  · split
    · exact hs
    · refine hs.modCh fun h k => ?_
      unfold Channel.taken
      split
      · exact k
      · exact k
  · exact hs

theorem issueByClass (t : TagId) (r : Req) : (s.issueByClass t r).AcwsLegal := by
  unfold State.issueByClass
  extract_lets dropped marked
  have hmarked : marked.AcwsLegal := by
    refine hs.of_chans (Eq.trans (b := dropped.chans) ?_ ?_)
    · dsimp only [marked]
      split <;> rfl
    · dsimp only [dropped]
      split <;> rfl
  split
  · exact hmarked.issueRecord _ _ _
  · exact hmarked.of_chans (State.issueEvent_chans ..)
  · exact (hmarked.takeFor r).of_chans rfl

theorem serve : ∀ t ∈ s.serve, t.AcwsLegal := by
  unfold State.serve
  split
  · simp
  · next others _ =>
    have hleft : ({ s with link := { s.link with waiting := others } } : State).AcwsLegal := hs.of_chans rfl
    split <;> rintro t ⟨⟩
    · exact hleft.issueByClass _ _
    · exact (hleft.takeFor _).deliverRead _ _
    · exact hs.of_chans rfl

/-! ### Faults, Error and completion -/

theorem enterFaulted (c : Chan) (f : FaultRec) : (s.enterFaulted c f).AcwsLegal :=
  ((hs.of_chans (s.discardBeat_chans c)).modCh_same fun _ => by rfl).post _

theorem raiseBeatFault (c : Chan) (f : FaultRec) : (s.raiseBeatFault c f).AcwsLegal :=
  (hs.of_chans (s.releaseGrant_chans c)).modCh_same fun _ => by rfl

theorem settleFault : ∀ t ∈ s.settleFault c (s.ch c), t.AcwsLegal := by
  unfold State.settleFault
  split
  · simp
  · split
    · next x _ =>
      split
      · have hback : ((s.ch c).commitFault x).2.AcwsLegal := hs c
        generalize (s.ch c).commitFault x = back at hback
        rintro t ⟨⟩
        exact (hs.setCh hback).enterFaulted _ _
      · exact map (fun f => hs.enterFaulted c f) _
    · simp

theorem enterError (c : Chan) (cause : ErrCause) (kind : EventKind) (detail : Word64) :
    (s.enterError c cause kind detail).AcwsLegal := by
  unfold State.enterError
  split
  · exact hs
  · exact ((hs.of_chans (s.abandonAll_chans c _)).modCh_same fun _ => by rfl).post _

theorem finish : (s.modCh c Channel.finish).AcwsLegal := hs.modCh fun h k => by
  have hadvance (x : Current) : (h.advance x).AcwsLegal := by
    unfold Channel.advance
    split <;> exact k
  unfold Channel.finish
  split
  · exact hadvance _
  · exact k

theorem complete (c : Chan) (status : Status) : (s.complete c status).AcwsLegal := by
  unfold State.complete
  dsimp only
  split
  · exact hs
  · split
    · split
      · exact hs.finish.post _
      · exact hs.finish
    · exact (hs.modCh_same fun _ => by rfl).ask _

/-! ### Taking and executing descriptors -/

theorem fetchHalf (c : Chan) (address : Nat) (upper : Bool) : (s.fetchHalf c address upper).AcwsLegal := by
  unfold State.fetchHalf
  dsimp only
  split
  · split
    · exact (hs.takeFor _).deliverRead _ _
    · exact hs.ask _
  · exact hs.ask _

theorem fetchHalves (c : Chan) (ring : RingId) (location : Word64) : (s.fetchHalves c ring location).AcwsLegal :=
  (hs.fetchHalf _ _ _).fetchHalf _ _ _

theorem startFetch (c : Chan) (ring : RingId) (location : Word64) : (s.startFetch c ring location).AcwsLegal :=
  (hs.modCh_same fun _ => by rfl).fetchHalves _ _ _

theorem startTaking (c : Chan) (ring : RingId) (location : Word64) : (s.startTaking c ring location).AcwsLegal :=
  (hs.modCh_same fun _ => by rfl).fetchHalves _ _ _

theorem stopTaking (c : Chan) : (s.stopTaking c).AcwsLegal := by
  unfold State.stopTaking
  exact modCh_same (s := s.withdraw _) (hs.of_chans rfl) fun _ => by rfl

theorem fetched (c : Chan) (lo hi : FetchHalf) : (s.fetched c lo hi).AcwsLegal := by
  unfold State.fetched
  extract_lets h ring location address failed
  split
  · exact hs.enterFaulted _ _
  · exact hs.enterFaulted _ _
  · extract_lets image ready
    have hready : ready.AcwsLegal := hs.modCh_same fun _ => by rfl
    split
    · exact hready
    · exact hready.enterFaulted _ _
  · exact hs

/-- A SET CONTROL changes bits of the capability mask only (R63). -/
theorem execSetControl (c : Chan) (x : Current) : (s.execSetControl c (s.ch c) x).AcwsLegal := by
  cases hm : updateMaskLegal (descUpdateMask x.image) with
  | true =>
    rw [State.execSetControl_legal hm]
    have hacw := acwLegal_update (hs c).1 (descUpdateMask_lt x.image) hm (descImmediate x.image)
    refine complete (hs.setCh ?_) _ _
    exact ⟨hacw, (hs c).2⟩
  | false =>
    rw [State.execSetControl_illegal hm]
    exact hs.enterFaulted _ _

theorem execFence (c : Chan) : (s.execFence c).AcwsLegal := by
  unfold State.execFence
  split
  · exact hs.modCh_same fun _ => by rfl
  · exact hs.complete _ _

theorem execFlush (c : Chan) : (s.execFlush c).AcwsLegal := (hs.modCh_same fun _ => by rfl).modCache _

theorem execCall (c : Chan) (h : Channel) (x : Current) : (s.execCall c h x).AcwsLegal := by
  unfold State.execCall
  split
  · exact hs.enterFaulted _ _
  · exact hs.modCh_same fun _ => by rfl

theorem execReturn (c : Chan) (h : Channel) : (s.execReturn c h).AcwsLegal := by
  unfold State.execReturn
  split
  · exact hs.enterFaulted _ _
  · refine hs.modCh fun h k => ?_
    split <;> exact k

theorem execute (c : Chan) (x : Current) : (s.execute c (s.ch c) x).AcwsLegal := by
  unfold State.execute
  split
  · split
    · exact (hs.modCh_same fun _ => by rfl).complete _ _
    · exact hs.modCh_same fun _ => by rfl
  · exact hs.execSetControl c x
  · exact hs.execFence c
  · exact hs.execFlush c
  · exact hs.execCall _ _ _
  · exact hs.execReturn _ _
  · exact hs.complete _ _
  · exact hs

/-! ### Saving, restoring and expedited work -/

theorem saveStage (c : Chan) (v : Save) : (s.saveStage c v).AcwsLegal :=
  foldl (fun _ r hs => hs.ask r) _ (hs.modCh_same fun _ => by rfl)

theorem beginSave (c : Chan) (origin : Origin) : (s.beginSave c origin).AcwsLegal :=
  (hs.modCh_same fun _ => by rfl).saveStage _ _

theorem saveDone (c : Chan) (v : Save) : (s.saveDone c v).AcwsLegal := by
  unfold State.saveDone
  split
  · exact (hs.modCh_same fun _ => by rfl).post _
  · exact hs.modCh_same fun _ => by rfl

theorem saveStep (h : Channel) : ∀ t ∈ s.saveStep c h, t.AcwsLegal := by
  unfold State.saveStep
  split
  · simp
  · split
    · simp
    · split <;> rintro t ⟨⟩
      · exact hs.saveStage _ _
      · exact hs.saveDone _ _

theorem beginRestore (c : Chan) (byUnpark : Bool) : (s.beginRestore c byUnpark).AcwsLegal :=
  foldl (fun _ _ hs => hs.ask _) _ (hs.modCh_same fun _ => by rfl)

theorem applyRestart (c : Chan) (choice : Restart) : (s.applyRestart c choice).AcwsLegal := by
  cases choice with
  | continue_ =>
    refine hs.modCh fun h k => ?_
    unfold Channel.continued
    extract_lets
    split <;> exact k
  | restartJob => exact hs.modCh_same fun _ => by rfl
  | abandonJob => exact hs.complete _ _
  | skipWait => exact (hs.modCh_same fun _ => by rfl).complete _ _

/-- A block is taken up only where its ACW passes the last check (R118, R119). -/
theorem restoreStep (h : Channel) : ∀ t ∈ s.restoreStep c h, t.AcwsLegal := by
  unfold State.restoreStep
  split
  · simp
  · next x _ =>
    split
    · simp
    · split
      · rintro t ⟨⟩
        exact hs.enterError _ _ _ _
      · next hcheck =>
        extract_lets taken told restarted
        have htaken : taken.AcwsLegal := hs.modCh fun _ k => k.takeContext (acwLegal_csbAcw hcheck)
        have htold : told.AcwsLegal := by
          dsimp only [told]
          split
          · exact htaken.post _
          · exact htaken
        rintro t ⟨⟩
        refine (htold.applyRestart _ _).modCh fun h k => ?_
        unfold Channel.claimAfterRestore
        split
        · exact k
        · split <;> exact k

/-- The shadow of the live ACW comes back as expedite work ends without a save (R123). -/
theorem takeShadow (state : ChState) : (s.modCh c fun h => { h.takeShadow with state := state }).AcwsLegal :=
  hs.modCh fun _ k => k.takeShadow

theorem expediteEnd (c : Chan) (h : Channel) : (s.expediteEnd c h).AcwsLegal := by
  unfold State.expediteEnd
  dsimp only
  split
  · split
    · exact (hs.modCh_same fun _ => by rfl).post _
    · exact hs.beginRestore _ _
  · split
    · exact (hs.takeShadow _).beginSave _ _
    · exact hs.takeShadow _
  · split
    · exact (hs.takeShadow _).beginSave _ _
    · exact hs.takeShadow _
  · exact hs.takeShadow _

/-! ### The sequencer -/

theorem applyHold : ∀ t ∈ s.applyHold c (s.ch c), t.AcwsLegal := by
  unfold State.applyHold
  dsimp only
  split
  · rintro t ⟨⟩
    exact hs.setCh (hs c)
  · simp

theorem endDrain : ∀ t ∈ s.endDrain c (s.ch c), t.AcwsLegal := by
  unfold State.endDrain
  split
  · rintro t ⟨⟩
    exact hs.setCh (hs c)
  · simp

theorem chooseNext (c : Chan) (h : Channel) : (s.chooseNext c h).AcwsLegal := by
  unfold State.chooseNext
  split
  · exact hs.startTaking _ _ _
  · split
    · exact hs.expediteEnd _ _
    · exact hs.modCh_same fun _ => by rfl

theorem workStep : ∀ t ∈ s.workStep c (s.ch c), t.AcwsLegal := by
  have hpark (o : Origin) : (s.beginSave c o).AcwsLegal := hs.beginSave c o
  have hdone (status : Status) : (s.complete c status).AcwsLegal := hs.complete c status
  intro t ht
  unfold State.workStep at ht
  split at ht
  · next u hu => exact hs.settleFault t (hu.trans ht)
  · split at ht
    · cases ht
    · cases hp : (s.ch c).phase with
      | choose =>
        simp only [hp] at ht
        split at ht
        · cases ht
        · split at ht <;> obtain rfl := Option.some.inj ht
          · exact hpark _
          · exact hs.chooseNext _ _
      | taking =>
        simp only [hp] at ht
        split at ht
        · obtain rfl := Option.some.inj ht
          exact hs.stopTaking c
        · cases ht
      | fetching lo hi =>
        simp only [hp] at ht
        split at ht
        · cases ht
        · obtain rfl := Option.some.inj ht
          exact hs.fetched _ _ _
      | ready =>
        simp only [hp] at ht
        split at ht
        · cases ht
        · split at ht
          · obtain rfl := Option.some.inj ht
            exact hpark _
          · exact map (fun x => hs.execute c x) _ t ht
      | job =>
        simp only [hp] at ht
        split at ht
        · cases ht
        · exact map hpark _ t ht
      | ending =>
        simp only [hp] at ht
        split at ht
        · cases ht
        · split at ht
          · obtain rfl := Option.some.inj ht
            exact hpark _
          · exact map (fun x : Current => hdone x.endStatus) _ t ht
      | fence =>
        simp only [hp] at ht
        split at ht
        · cases ht
        · obtain rfl := Option.some.inj ht
          exact hdone _
      | flushing sweep =>
        cases sweep with
        | none => simp only [hp] at ht; cases ht
        | some n =>
          simp only [hp] at ht
          split at ht
          · obtain rfl := Option.some.inj ht
            exact hdone _
          · cases ht
      | completing status issued =>
        simp only [hp] at ht
        split at ht
        · obtain rfl := Option.some.inj ht
          exact hs.finish
        · cases ht
      | drained =>
        simp only [hp] at ht
        split at ht
        · cases ht
        · obtain rfl := Option.some.inj ht
          exact hs.modCh_same fun _ => by rfl

theorem idleStep : ∀ t ∈ s.idleStep c (s.ch c), t.AcwsLegal := by
  unfold State.idleStep
  split
  · simp
  · split
    · rintro t ⟨⟩
      exact hs.beginSave _ _
    · split
      · rintro t ⟨⟩
        exact hs.setCh (Channel.AcwsLegal.enterExpediting (hs c) _)
      · split
        · rintro t ⟨⟩
          exact hs.setCh (hs c)
        · simp

theorem waitStep (h : Channel) : ∀ t ∈ s.waitStep c h, t.AcwsLegal := by
  unfold State.waitStep
  split
  · simp
  · split
    · rintro t ⟨⟩
      exact hs.beginSave _ _
    · split
      · rintro t ⟨⟩
        exact (hs.modCh_same fun _ => by rfl).complete _ _
      · split
        · rintro t ⟨⟩
          exact hs.modCh_same fun _ => by rfl
        · simp

theorem chanStep : ∀ t ∈ s.chanStep c, t.AcwsLegal := by
  intro t ht
  unfold State.chanStep at ht
  dsimp only at ht
  split at ht
  · next u hu => exact hs.endDrain t (hu.trans ht)
  · split at ht
    · next u hu => exact hs.applyHold t (hu.trans ht)
    · cases he : (s.ch c).state with
      | disabled | faulted | error => simp [he] at ht
      | idle => exact hs.idleStep t (by simpa only [he] using ht)
      | running | draining | expediting => exact hs.workStep t (by simpa only [he] using ht)
      | waiting => exact hs.waitStep _ t (by simpa only [he] using ht)
      | parked =>
        simp only [he] at ht
        split at ht
        · obtain rfl := Option.some.inj ht
          exact hs.setCh (Channel.AcwsLegal.enterExpediting (hs c) _)
        · cases ht
      | saving => exact hs.saveStep _ t (by simpa only [he] using ht)
      | restoring => exact hs.restoreStep _ t (by simpa only [he] using ht)

/-! ### The beat -/

theorem arbiterChoice : ∀ x ∈ s.arbiterChoice, x.2.AcwsLegal := by
  unfold State.arbiterChoice
  split
  · rintro x ⟨⟩
    exact hs.of_chans rfl
  · split
    · rintro x ⟨⟩
      exact hs.of_chans rfl
    · simp

theorem startAttempt (c : Chan) (fullMasked : Bool) : (s.startAttempt c fullMasked).AcwsLegal := by
  have hbeat (b : Option Beat) : ({ s with beat := b } : State).AcwsLegal := hs.of_chans rfl
  unfold State.startAttempt
  dsimp only
  split
  · exact hs
  · split
    · exact (hbeat _).raiseBeatFault _ _
    · exact hbeat _

theorem indexDone (b : Beat) (h : Channel) (x : Current) : (s.indexDone b h x).AcwsLegal := by
  unfold State.indexDone
  dsimp only
  split
  · exact hs.raiseBeatFault _ _
  · exact hs.of_chans rfl

/-- The flags of an attempt that meets an unmasked condition are set, whatever follows (R75, R76). -/
theorem arithmeticStop (b : Beat) (x : Current) (conds : CondSet) (f : FaultRec) :
    (s.arithmeticStop b x conds f).AcwsLegal := by
  have hflags : (s.modCh b.chan fun h => h.addFlags conds).AcwsLegal := hs.modCh fun _ k => k.addFlags conds
  unfold State.arithmeticStop
  dsimp only
  split
  · exact ((hflags.modCh_same fun _ => by rfl).post _).startAttempt _ _
  · exact hflags.raiseBeatFault _ _

theorem compute (b : Beat) (h : Channel) (x : Current) : (s.compute b h x).AcwsLegal := by
  unfold State.compute
  extract_lets
  split
  · exact hs.arithmeticStop _ _ _ _
  · split
    · exact hs.arithmeticStop _ _ _ _
    · exact hs.of_chans rfl

theorem failStage (c : Chan) (f : FaultRec) : ∀ t ∈ s.failStage c f, t.AcwsLegal := by
  unfold State.failStage
  dsimp only
  split
  · rintro t ⟨⟩
    exact hs.of_chans rfl
  · split
    · simp
    · rintro t ⟨⟩
      exact hs.raiseBeatFault _ _

/-- A commit sets the flags of its conditions (R77). -/
theorem commit (b : Beat) (x : Current) : (s.commit b x).AcwsLegal := by
  obtain ⟨u, hcommit, hchans, -⟩ := s.commit_keeps b x
  rw [hcommit]
  exact (hs.of_chans hchans).modCh fun _ k => k.committed _

theorem beatStep : ∀ t ∈ s.beatStep, t.AcwsLegal := by
  intro t ht
  unfold State.beatStep at ht
  split at ht
  · cases ht
  · next b _ =>
    extract_lets h at ht
    split at ht
    · cases ht
    · next x _ =>
      have hread : (if b.stage == .index then s.indexDone b h x else s.compute b h x).AcwsLegal := by
        split
        · exact hs.indexDone b h x
        · exact hs.compute b h x
      cases hb : b.stage with
      | scatter =>
        simp only [hb] at ht
        split at ht
        · exact hs.failStage _ _ t ht
        · split at ht
          · next u hu => exact hs.of_chans (s.acquirePass_chans _ t (hu.trans ht))
          · split at ht
            · obtain rfl := Option.some.inj ht
              exact hs.commit b x
            · cases ht
      | index | source =>
        simp only [hb] at ht hread
        split at ht
        · exact hs.failStage _ _ t ht
        · split at ht
          · obtain rfl := Option.some.inj ht
            exact hread
          · exact hs.of_chans (s.readPass_chans _ t ht)

theorem grantBeat : s.grantBeat.AcwsLegal := by
  unfold State.grantBeat
  split
  · exact hs
  · split
    · exact hs
    · next c u hu => exact startAttempt (hs.arbiterChoice (c, u) hu) _ _

/-! ### Sweeps, the power controller, and settling -/

theorem startSweep : ∀ t ∈ s.startSweep, t.AcwsLegal := by
  unfold State.startSweep
  split
  · extract_lets kind n started
    have hstarted : started.AcwsLegal := hs.modCache _
    clear_value started kind
    cases kind with
    | flush c =>
      rintro t ⟨⟩
      refine hstarted.modCh fun h k => ?_
      split <;> exact k
    | command | dormantEntry =>
      rintro t ⟨⟩
      exact hstarted
  · simp

theorem softInitDone : ∀ t ∈ s.softInitDone, t.AcwsLegal := by
  unfold State.softInitDone
  have hcleared : ({ s with device := { s.device with softInit := false } } : State).AcwsLegal := hs.of_chans rfl
  split
  · rintro t ⟨⟩
    exact hcleared.forChans fun _ _ hs => hs.modCh_same fun _ => by rfl
  · simp

/-- One action of the part's own (log 6). -/
theorem progress {t : State} (h : s.progress = some t) : t.AcwsLegal := by
  obtain ⟨c, h⟩ | h | h | h | h | h | h | h := State.progress_cases h
  · exact hs.chanStep t h
  · exact hs.beatStep t h
  · exact hs.serve t h
  · exact hs.of_chans (s.endCommandSweep_chans t h)
  · exact hs.startSweep t h
  · exact hs.softInitDone t h
  · exact hs.of_chans (s.quiescingDone_chans t h)
  · exact hs.of_chans (s.dormantNext_chans t h)

theorem close : s.close.AcwsLegal := hs.of_chans s.close_chans

/-- The end of a command, after which the part has gone on of its own accord. -/
theorem settleClose : s.settleClose.AcwsLegal :=
  close (settleLoop_induction (P := State.AcwsLegal) (fun _ _ hs h => hs.progress h) _ s hs)

end Sys2Proof.Machine.State.AcwsLegal
end

section
/-! PROOF. The ACWs through resets, channel commands, responses, register writes, and every command (O7). -/
namespace Sys2Proof.Machine

/-! ### Channels -/

namespace Channel.AcwsLegal
variable {h : Channel} (k : h.AcwsLegal)
include k

theorem claimLatched : h.claimLatched.AcwsLegal := by
  unfold Channel.claimLatched
  split <;> exact k

theorem writeRingSize (v : Word32) : (h.writeRingSize v).AcwsLegal := by
  unfold Channel.writeRingSize
  split
  · exact k
  · split <;> exact k

theorem writeExpediteSize (v : Word32) : (h.writeExpediteSize v).AcwsLegal := by
  unfold Channel.writeExpediteSize
  split
  · exact k
  · split <;> exact k

theorem writeRingBase (half : Half) (v : Word32) : (h.writeRingBase half v).AcwsLegal := by
  unfold Channel.writeRingBase
  split <;> exact k

theorem writeExpediteBase (half : Half) (v : Word32) : (h.writeExpediteBase half v).AcwsLegal := by
  unfold Channel.writeExpediteBase
  split <;> exact k

theorem writeCsb (half : Half) (v : Word32) : (h.writeCsb half v).AcwsLegal := by
  unfold Channel.writeCsb
  dsimp only
  split
  · exact k
  · split
    · exact k
    · split <;> exact k

theorem writeCompact (on : Bool) : (h.writeCompact on).AcwsLegal := by
  unfold Channel.writeCompact
  split
  · exact k
  · split
    · exact k
    · split <;> exact k

theorem writeAperture (a : WayId) (f : Aperture → Aperture) : (h.writeAperture a f).AcwsLegal := by
  unfold Channel.writeAperture
  split <;> exact k

theorem writeProducer (v : Word32) : (h.writeProducer v).AcwsLegal := by
  unfold Channel.writeProducer
  split <;> exact k

theorem writeExpediteProducer (v : Word32) : (h.writeExpediteProducer v).AcwsLegal := by
  unfold Channel.writeExpediteProducer
  split
  · exact k
  · extract_lets ring rung
    have hrung : rung.AcwsLegal := k
    split
    · exact hrung
    · exact hrung.claimLatched

end Channel.AcwsLegal

namespace State.AcwsLegal
variable {s : State} {c : Chan} (hs : s.AcwsLegal)

/-! ### Resets -/

theorem reset : State.reset.AcwsLegal := State.acwsLegal_iff.2 fun d => by
  rw [State.reset_ch]
  exact Channel.AcwsLegal.reset

theorem powerOn (s : State) : s.powerOn.AcwsLegal := reset.of_chans rfl

theorem deviceReset (s : State) : s.deviceReset.AcwsLegal := reset.of_chans rfl

include hs

theorem channelReset (c : Chan) : (s.channelReset c).AcwsLegal := by
  unfold State.channelReset
  extract_lets given swept
  have hgiven : given.AcwsLegal := hs.of_chans (s.abandonAll_chans c _)
  have hswept : swept.AcwsLegal := hgiven.modCache _
  exact hswept.modCh fun h _ => .of_none (Channel.AcwsLegal.afterReset h).1 rfl

theorem softInitAgain : s.softInitAgain.AcwsLegal := by
  unfold State.softInitAgain
  dsimp only
  have hdevice (x : Device) : ({ s with device := x } : State).AcwsLegal := hs.of_chans rfl
  exact (hdevice _).forChans fun _ _ hs => hs.modCh_same fun _ => by rfl

/-- A Soft Init keeps the live ACWs and drops the shadows (R171, Table 11-1). -/
theorem softInit : s.softInit.AcwsLegal := by
  unfold State.softInit
  split
  · exact hs.softInitAgain
  · extract_lets released link kept isChannels orphaned reset
    have hreleased : released.AcwsLegal :=
      hs.of_chans (foldl_keeps (p := State.chans) (fun s c => s.releaseGrant_chans c) _ _)
    have hkept : kept.AcwsLegal := hreleased.of_chans rfl
    have horphaned : orphaned.AcwsLegal := hkept.of_chans (kept.orphan_chans _)
    have hreset : reset.AcwsLegal := horphaned.forChans fun _ _ hs => hs.modCh fun _ k => k.softInit
    exact hreset.of_chans rfl

/-! ### Channel commands -/

theorem claimLatched : (s.modCh c Channel.claimLatched).AcwsLegal := hs.modCh fun _ k => k.claimLatched

theorem retry (c : Chan) (f : FaultRec) : (s.retry c f).AcwsLegal := by
  unfold State.retry
  split
  · exact hs.modCh_same fun _ => by rfl
  · exact hs.startFetch _ _ _

theorem abandon (c : Chan) (f : FaultRec) : (s.abandon c f).AcwsLegal := by
  unfold State.abandon
  split
  · exact hs.complete _ _
  · exact hs.finish

theorem resume (c : Chan) (cmd : ChanCmd) : (s.resume c cmd).AcwsLegal := by
  have hresumed : (s.modCh c Channel.resumed).AcwsLegal := hs.modCh_same fun _ => by rfl
  unfold State.resume
  cases cmd with
  | resumeRetry => exact hresumed.retry _ _
  | resumeSkip =>
    refine hresumed.modCh fun h k => ?_
    unfold Channel.skipBeat
    split <;> exact k
  | resumeSubstitute => exact hresumed.modCh_same fun _ => by rfl
  | resumeAbandon => exact hresumed.abandon _ _
  | enable | disable | reset | park | unpark => exact hresumed

theorem acceptPark (c : Chan) : (s.acceptPark c).AcwsLegal := by
  unfold State.acceptPark
  dsimp only
  cases (s.ch c).state with
  | idle | waiting => exact hs.beginSave _ _
  | running =>
    dsimp only
    split
    · exact hs.setCh (hs c)
    · exact hs
    · exact hs.setCh (hs c)
  | saving | restoring | expediting => exact hs.setCh (hs c)
  | disabled | draining | faulted | parked | error => exact hs

theorem accept (c : Chan) (cmd : ChanCmd) : (s.accept c cmd).AcwsLegal := by
  have hcleared : (s.modCh c fun h => { h with reason := .none }).AcwsLegal := hs.modCh_same fun _ => by rfl
  unfold State.accept
  cases cmd with
  | enable => exact hcleared.modCh_same fun _ => by rfl
  | disable =>
    refine hcleared.modCh fun h k => ?_
    unfold Channel.disabled
    dsimp only
    split <;> exact k
  | reset => exact hcleared.channelReset c
  | park => exact hcleared.acceptPark c
  | unpark => exact hcleared.beginRestore _ _
  | resumeRetry | resumeSkip | resumeSubstitute | resumeAbandon => exact hcleared.resume _ _

theorem reject (c : Chan) (r : Reason) : (s.reject c r).AcwsLegal := hs.modCh_same fun _ => by rfl

theorem judge (c : Chan) (cmd : ChanCmd) : (s.judge c cmd).AcwsLegal := by
  unfold State.judge
  split
  · exact hs.accept _ _
  · split
    · exact hs.reject _ _
    · split
      · exact hs.reject _ _
      · split
        · exact hs.reject _ _
        · exact hs.accept _ _

theorem command (c : Chan) (cmd : ChanCmd) : (s.command c cmd).AcwsLegal := by
  unfold State.command
  split
  · unfold State.judgeNow
    dsimp only
    split
    · exact (hs.judge _ _).claimLatched
    · exact hs.judge _ _
  · split
    · exact hs.modCh_same fun _ => by rfl
    · exact hs.reject _ _

/-! ### Device Control -/

theorem release : s.release.AcwsLegal := by
  unfold State.release
  extract_lets d active lists freed judged
  have hactive : active.AcwsLegal := hs.of_chans rfl
  have hfreed : freed.AcwsLegal := hactive.forChans fun _ _ hs => hs.modCh_same fun _ => by rfl
  have hjudged : judged.AcwsLegal := hfreed.forChans fun c _ hs => foldl (fun _ cmd hs => hs.judge c cmd) _ hs
  exact hjudged.forChans fun _ _ hs => hs.claimLatched

theorem deviceControl (w : Word32) : (s.deviceControl w).AcwsLegal := by
  unfold State.deviceControl
  split
  · exact deviceReset s
  · split
    · unfold State.controlEffect
      split
      · exact hs.softInit
      · extract_lets changes d enabled
        have henabled : enabled.AcwsLegal := hs.of_chans rfl
        split
        · exact henabled.of_chans rfl
        · split
          · exact henabled.of_chans rfl
          · split
            · split
              · exact henabled.of_chans rfl
              · exact henabled.release
            · exact henabled
    · exact hs.of_chans rfl

/-! ### Responses -/

theorem answered (r : Req) (resp : Response) : (s.answered r resp).AcwsLegal := by
  unfold State.answered
  split
  · exact hs.of_chans (s.fillData_chans ..)
  · exact hs.of_chans (s.fillData_chans ..)
  · exact hs.of_chans rfl
  · exact hs.of_chans rfl
  · exact hs.deliverRead _ _
  · exact hs.of_chans rfl
  · exact hs.of_chans (s.writeDone_chans r)
  · exact hs

theorem bypassFailed (c : Chan) (beat : Nat) (lanes : List (Nat × Nat)) (reason : FailReason) :
    (s.bypassFailed c beat lanes reason).AcwsLegal := by
  unfold State.bypassFailed
  exact modCh_same (s := s.discardBeat c) (hs.of_chans (s.discardBeat_chans c)) fun _ => by rfl

theorem enterFatal : s.enterFatal.AcwsLegal := by
  have hfatal : ({ s with engine := { s.engine with fatal := true } } : State).AcwsLegal := hs.of_chans rfl
  exact hfatal.forChans fun _ _ hs => hs.modCh_same fun _ => by rfl

theorem readFailed (r : Req) (reason : FailReason) : (s.readFailed r reason).AcwsLegal := by
  unfold State.readFailed
  split
  · exact hs
  · dsimp only
    split
    · exact hs.of_chans rfl
    · refine hs.modCh fun h k => ?_
      split <;> exact k
    · exact hs.enterError _ _ _ _
    · exact hs

theorem writeFailed (r : Req) (reason : FailReason) : (s.writeFailed r reason).AcwsLegal := by
  unfold State.writeFailed
  split
  · exact hs
  · split
    · exact hs.bypassFailed _ _ _ _
    · exact hs.enterError _ _ _ _
    · exact hs.enterError _ _ _ _
    · exact hs.enterFatal
    · exact hs

/-- Only a failed read or write reaches a channel (R143, R149). -/
theorem failed (r : Req) (reason : FailReason) : (s.failed r reason).AcwsLegal := by
  have hline : (if r.isPrefetch then s.prefetchFailed r reason else s.lineFail r reason).AcwsLegal := by
    split <;> exact hs.of_chans rfl
  unfold State.failed
  cases r.kind with
  | fetchShared | fetchOwned | upgrade => exact hline
  | writeLine => exact hs.of_chans rfl
  | readDirect => exact hs.readFailed _ _
  | writePartial => exact hs.writeFailed _ _

theorem receive (t : TagId) (gen : Bool) (resp : Response) : (s.receive t gen resp).AcwsLegal := by
  unfold State.receive
  split
  · have hfreed : (s.freeOutstanding t).AcwsLegal := hs.of_chans rfl
    unfold State.outcome
    split
    · exact hfreed.failed _ _
    · exact hfreed.answered _ _
  · exact hs.of_chans rfl

theorem expire (t : TagId) : (s.expire t).AcwsLegal := by
  unfold State.expire
  dsimp only
  split
  · split
    · exact hs
    · have hended : ({ s with link := s.link.putTag t (s.link.tag t).expire } : State).AcwsLegal := hs.of_chans rfl
      exact hended.failed _ _
  · exact hs

/-! ### Writes to registers -/

/-- The host writes an ACW within the capability mask only (R61), and no shadow. -/
theorem writeChan (c : Chan) (r : ChanReg) (v : Word32) : (s.writeChan c r v).AcwsLegal := by
  cases r with
  | acw => exact hs.modCh fun _ k => k.writeAcw v
  | command =>
    show (s.writeCommand c v).AcwsLegal
    unfold State.writeCommand
    split
    · exact hs.command _ _
    · exact hs.reject _ _
  | control => exact hs.modCh fun _ k => k.writeCompact _
  | status => exact hs.modCh_same fun _ => by rfl
  | ringBase half => exact hs.modCh fun _ k => k.writeRingBase half v
  | ringSize => exact hs.modCh fun _ k => k.writeRingSize v
  | ringProducer => exact hs.modCh fun _ k => k.writeProducer v
  | expediteBase half => exact hs.modCh fun _ k => k.writeExpediteBase half v
  | expediteSize => exact hs.modCh fun _ k => k.writeExpediteSize v
  | expediteProducer => exact hs.modCh fun _ k => k.writeExpediteProducer v
  | csbAddress half => exact hs.modCh fun _ k => k.writeCsb half v
  | apertureBase a half => exact hs.modCh fun _ k => k.writeAperture a _
  | apertureLimit a half => exact hs.modCh fun _ k => k.writeAperture a _
  | apertureControl a => exact hs.modCh fun _ k => k.writeAperture a _
  | ringConsumer | expediteConsumer | linkDepth | faultWord i => exact hs

theorem writeReg (r : Reg) (v : Word32) : (s.writeReg r v).AcwsLegal := by
  cases r with
  | deviceControl => exact hs.deviceControl v
  | cacheControl => exact hs.of_chans (s.writeCacheControl_chans v)
  | eventBase half => exact hs.of_chans (s.writeEventBase_chans half v)
  | eventSize => exact hs.of_chans (s.writeEventSize_chans v)
  | eventHead => exact hs.of_chans (s.writeEventHead_chans v)
  | chan c r => exact hs.writeChan c r v
  | deviceStatus | responseTimeout | dozeDelay | lostEvents | lateCount | lostWriteBacks | prefetchFails =>
    exact hs.of_chans rfl
  | id | capability | resetCause | acwMask | eventTail => exact hs

theorem begun : s.begin.AcwsLegal := hs.of_chans rfl

theorem offer (r : Option Reg) (v : Word32) : (s.offer r v).AcwsLegal := by
  unfold State.offer
  extract_lets woken device written
  have hwoken : woken.AcwsLegal := hs.of_chans rfl
  have hwritten : written.AcwsLegal := by
    dsimp only [written]
    split
    · exact hwoken.of_chans rfl
    · cases r with
      | none => exact hwoken
      | some r => exact hwoken.writeReg r v
  exact hwritten.of_chans rfl

theorem regWrite (r : Reg) (v : Word32) : (s.regWrite r v).AcwsLegal := (hs.offer _ v).close

theorem regWriteSettle (r : Reg) (v : Word32) : (s.regWriteSettle r v).AcwsLegal := (hs.offer _ v).settleClose

theorem arrive (tag : TagId) (gen : Bool) (resp : Response) : (s.arrive tag gen resp).AcwsLegal :=
  (hs.begun.receive _ _ _).settleClose

/-! ### Every command -/

theorem exec (i : Instr) {t : State} (h : exec i s = .next t) : t.AcwsLegal := by
  have hend {u : State} (hu : u.AcwsLegal) (he : Machine.exec i s = .next u) : t.AcwsLegal :=
    Host.Outcome.next.inj (he.symm.trans h) ▸ hu
  cases i with
  | powerOnReset => exact hend (powerOn s) rfl
  | deviceReset | softInit | quiesce | quiesceRelease | dormant | wake | flushAndInvalidate | enable | disable | reset
  | park | unpark | resumeRetry | resumeSkip | resumeSubstitute | resumeAbandon | ringProducer | expediteProducer
  | eventQueueSize => exact hend (hs.regWriteSettle _ _) rfl
  | interruptEnable | siblingPrefetchEnable | ringSize | expediteSize | ringBase | expediteBase | compact | csbAddress
  | apertureBase | apertureLimit | apertureControl | acw | eventQueueBase | eventHead | lostEvents | lateResponseCount
  | lostWriteBackCount | siblingPrefetchFailCount | deviceStatus | channelStatus => exact hend (hs.regWrite _ _) rfl
  | partialRegisterWrite => exact hend (close (s := s.offerPartial) (hs.of_chans rfl)) rfl
  | registerWrite => exact hend (hs.offer _ _).settleClose rfl
  | wakeComplete =>
    refine hend ?_ rfl
    split
    · exact settleClose (s := (s.begin.setPower .quiesced).ack .wakeAck) (hs.of_chans rfl)
    · exact hs.begun.close
  | doze =>
    refine hend ?_ rfl
    split
    · exact close (s := s.begin.setPower .doze) (hs.of_chans rfl)
    · exact hs.begun.close
  | probeShare | probeInvalidate => exact hend (settleClose (hs.begun.of_chans (s.begin.probe_chans _ _))) rfl
  | beatGrant => exact hend hs.begun.grantBeat.settleClose rfl
  | fetchSharedData | siblingPrefetchData | fetchOwnedData | upgradeDone | upgradeData | readDirectData
  | descriptorHalfData | csbReadData | bypassWriteDone | completionRecordDone | csbWriteDone | eventRecordDone
  | writelineDone | fetchFail | siblingPrefetchFail | descriptorFetchFail | csbReadFail | bypassWriteFail
  | completionRecordFail | csbWriteFail | eventRecordFail | writelineFail | lateResponse =>
    exact hend (hs.arrive _ _ _) rfl
  | responseTimeout tag => exact hend (hs.begun.expire tag).settleClose rfl
  | sweepSet => exact hend (settleClose (hs.begun.of_chans s.begin.sweepNext_chans)) rfl
  | eventRecordWrite => exact hend (settleClose (hs.begun.of_chans s.begin.writeEvent_chans)) rfl

theorem step {t : State} (h : step s = .next t) : t.AcwsLegal := by
  cases hp : s.pending with
  | nil =>
    rw [step_of_nil hp] at h
    have htick : s.tick.AcwsLegal := settleClose (hs.of_chans s.counted_chans)
    exact Host.Outcome.next.inj h ▸ htick
  | cons i rest =>
    rw [step_of_cons hp] at h
    have hrest : ({ s with pending := rest } : State).AcwsLegal := hs.of_chans rfl
    exact hrest.exec i h

end State.AcwsLegal

/-- Settles O7: a legal ACW comes from the host's checked write, the Control check of SET CONTROL, the last check of a
restored block, the sticky flags, a reset, or another legal ACW. -/
theorem stepKeepsAcwsLegal : Obligations.StepKeepsAcwsLegal := fun _ _ hs h => hs.step h

end Sys2Proof.Machine
end

section
/-! PROOF. The ACW register (R60, R61), and what every register reads after a power-on reset (Tables 11-1, 12-1 and 12-2;
O5). -/
namespace Sys2Proof.Machine

/-! ### Writes to the ACW -/

/-- A value that the capability mask does not admit (R60). -/
theorem not_acwLegal_iff (v : Word32) :
    (!acwLegal v) = true ↔ ∃ i : Fin 32, v[i.val] = true ∧ (0x000F7F7F#32)[i.val] = false := by
  rw [Bool.not_eq_true', ← Bool.not_eq_true, acwLegal_iff]
  simp only [not_forall, exists_prop, Bool.not_eq_true]

/-- The two checks of a write to the ACW, in their order (R61). -/
theorem Channel.writeAcw_eq (h : Channel) (v : Word32) : h.writeAcw v =
    if h.state ∉ [.disabled, .idle, .faulted, .parked] then { h with reason := .acwWrongState, acwRejected := true }
    else if ∃ i : Fin 32, v[i.val] = true ∧ (0x000F7F7F#32)[i.val] = false then
      { h with reason := .acwReservedBit, acwRejected := true }
    else { h with acw := v } := by
  have hstate : (!(h.state == .disabled || h.state == .idle || h.state == .faulted || h.state == .parked)) = true ↔
      h.state ∉ [.disabled, .idle, .faulted, .parked] := by simp [and_assoc]
  simp only [Channel.writeAcw, hstate, not_acwLegal_iff]

/-- Settles O20. -/
theorem acwWrites : Obligations.AcwWrites := by
  intro s c v ha h
  rw [exec_acw, execAcw, State.regWrite_modCh (f := (·.writeAcw v)) ha (fun _ => rfl) (h.writeAcw_eq v)]

/-! ### The reset state -/

theorem Link.reset_tag (t : TagId) : Link.reset.tag t = .reset := by simp [Link.tag, Link.reset]

theorem Link.reset_outstanding : Link.reset.outstanding = [] := by
  simp [Link.outstanding, Link.reset_tag, Tag.reset]

theorem Link.reset_retired (data : Bool) : Link.reset.retired data = 0 := by
  simp [Link.retired, Link.reset_tag, Tag.reset]

theorem State.reset_deviceStatus : State.reset.deviceStatus = 0 := by
  have hretired (data : Bool) : State.reset.link.retired data = 0 := Link.reset_retired data
  rw [State.deviceStatus, hretired, hretired]
  decide

/-- What a channel register reads after a power-on reset (Table 12-2). -/
theorem Channel.reset_read (r : ChanReg) : Channel.reset.read r = match r with
    | .acw => 0x00007F00
    | .apertureLimit _ .low => 0x00000FFF
    | _ => 0 := by
  cases r with
  | apertureBase a half => cases half <;> revert a <;> decide
  | apertureLimit a half => cases half <;> revert a <;> decide
  | apertureControl a => revert a; decide
  | faultWord i => revert i; decide
  | ringBase half | expediteBase half | csbAddress half => cases half <;> decide
  | control | command | status | acw | ringSize | ringProducer | ringConsumer | expediteSize | expediteProducer
  | expediteConsumer | linkDepth => decide

/-- What every register reads after a power-on reset (Tables 12-1 and 12-2). -/
theorem State.reset_readReg (r : Reg) : State.reset.readReg r = match r with
    | .id => 0x02400101
    | .capability => 0x6C264C44
    | .resetCause | .cacheControl => 1
    | .responseTimeout => 10000
    | .dozeDelay => 32
    | .acwMask => 0x000F7F7F
    | .chan _ .acw => 0x00007F00
    | .chan _ (.apertureLimit _ .low) => 0x00000FFF
    | _ => 0 := by
  cases r with
  | chan c r =>
    rw [State.readReg, State.reset_ch, Channel.reset_read]
    cases r with
    | apertureLimit a half => cases half <;> rfl
    | _ => rfl
  | deviceStatus => exact State.reset_deviceStatus
  | eventBase half => cases half <;> rfl
  | id | capability | deviceControl | resetCause | responseTimeout | dozeDelay | cacheControl | acwMask | eventSize
  | eventTail | eventHead | lostEvents | lateCount | lostWriteBacks | prefetchFails => rfl

theorem State.reset_sequenceNonzero : State.reset.SequenceNonzero := by
  refine ⟨by decide, by simp [State.reset, Engine.reset], ?_, by simp [State.reset, Link.reset]⟩
  rw [show State.reset.link.outstanding = [] from Link.reset_outstanding]
  simp

theorem State.reset_linksBounded : State.reset.LinksBounded := fun c => by
  rw [State.reset_ch]
  exact Nat.zero_le _

theorem State.reset_deferredBounded : State.reset.DeferredBounded := fun c => by
  rw [State.reset_ch]
  exact Nat.zero_le _

theorem State.reset_aperturesGranular : State.reset.AperturesGranular := fun c a => by
  rw [State.reset_ch]
  revert a
  decide

/-- Settles O5. -/
theorem resetState : Obligations.ResetState :=
  ⟨State.reset_readReg, rfl, rfl, rfl, rfl, rfl, State.reset_sequenceNonzero, Nat.zero_le _, .reset,
    State.reset_linksBounded, State.reset_deferredBounded, Nat.zero_le _, State.reset_aperturesGranular⟩

end Sys2Proof.Machine
end

section
/-! PROOF. What a command acts by before the part goes on: one inversion of `exec`, so that an invariant of every step is
shown once for each way in which a command acts, and not once for each of the 73 commands. -/
namespace Sys2Proof.Machine
variable {s t : State}

/-- The states that a command, or the tick, can make of `s` before its end (`close`, or `settleClose` where the part may go
on): a power-on reset alone has no such end. -/
inductive State.Acts (s : State) : State → Prop where
  | offer (r : Option Reg) (v : Word32) : s.Acts (s.offer r v)
  | offerPartial : s.Acts s.offerPartial
  | idle : s.Acts s.begin
  | woken : s.Acts ((s.begin.setPower .quiesced).ack .wakeAck)
  | dozed : s.Acts (s.begin.setPower .doze)
  | probed (address : Word64) (invalidate : Bool) : s.Acts (s.begin.probe address invalidate)
  | granted : s.Acts s.begin.grantBeat
  | received (tag : TagId) (gen : Bool) (resp : Response) : s.Acts (s.begin.receive tag gen resp)
  | expired (tag : TagId) : s.Acts (s.begin.expire tag)
  | swept : s.Acts s.begin.sweepNext
  | eventWritten : s.Acts s.begin.writeEvent
  | counted : s.Acts s.counted

/-- A step ends as `t` because the part acted, or because of a power-on reset. -/
def State.EndsAs (s t : State) : Prop := t = s.powerOn ∨ ∃ u, s.Acts u ∧ (t = u.close ∨ t = u.settleClose)

theorem State.Acts.close {u : State} (h : s.Acts u) : s.EndsAs u.close := .inr ⟨u, h, .inl rfl⟩

theorem State.Acts.settleClose {u : State} (h : s.Acts u) : s.EndsAs u.settleClose := .inr ⟨u, h, .inr rfl⟩

theorem State.regWrite_endsAs (r : Reg) (v : Word32) : s.EndsAs (s.regWrite r v) := (State.Acts.offer (some r) v).close

theorem State.regWriteSettle_endsAs (r : Reg) (v : Word32) : s.EndsAs (s.regWriteSettle r v) :=
  (State.Acts.offer (some r) v).settleClose

theorem State.arrive_endsAs (tag : TagId) (gen : Bool) (resp : Response) : s.EndsAs (s.arrive tag gen resp) :=
  (State.Acts.received tag gen resp).settleClose

/-- Everything that a command can do. -/
theorem exec_endsAs (i : Instr) (h : exec i s = .next t) : s.EndsAs t := by
  have hend {u : State} (hu : s.EndsAs u) (he : exec i s = .next u) : s.EndsAs t :=
    Host.Outcome.next.inj (he.symm.trans h) ▸ hu
  cases i with
  | powerOnReset => exact hend (.inl rfl) rfl
  | deviceReset | softInit | quiesce | quiesceRelease | dormant | wake | flushAndInvalidate | enable | disable | reset
  | park | unpark | resumeRetry | resumeSkip | resumeSubstitute | resumeAbandon | ringProducer | expediteProducer
  | eventQueueSize => exact hend (State.regWriteSettle_endsAs _ _) rfl
  | interruptEnable | siblingPrefetchEnable | ringSize | expediteSize | ringBase | expediteBase | compact | csbAddress
  | apertureBase | apertureLimit | apertureControl | acw | eventQueueBase | eventHead | lostEvents | lateResponseCount
  | lostWriteBackCount | siblingPrefetchFailCount | deviceStatus | channelStatus => exact hend (State.regWrite_endsAs _ _) rfl
  | registerWrite => exact hend (State.Acts.offer _ _).settleClose rfl
  | partialRegisterWrite => exact hend State.Acts.offerPartial.close rfl
  | wakeComplete =>
    refine hend ?_ rfl
    split
    · exact State.Acts.woken.settleClose
    · exact State.Acts.idle.close
  | doze =>
    refine hend ?_ rfl
    split
    · exact State.Acts.dozed.close
    · exact State.Acts.idle.close
  | probeShare | probeInvalidate => exact hend (State.Acts.probed _ _).settleClose rfl
  | beatGrant => exact hend State.Acts.granted.settleClose rfl
  | fetchSharedData | siblingPrefetchData | fetchOwnedData | upgradeDone | upgradeData | readDirectData
  | descriptorHalfData | csbReadData | bypassWriteDone | completionRecordDone | csbWriteDone | eventRecordDone
  | writelineDone | fetchFail | siblingPrefetchFail | descriptorFetchFail | csbReadFail | bypassWriteFail
  | completionRecordFail | csbWriteFail | eventRecordFail | writelineFail | lateResponse =>
    exact hend (State.arrive_endsAs _ _ _) rfl
  | responseTimeout tag => exact hend (State.Acts.expired tag).settleClose rfl
  | sweepSet => exact hend State.Acts.swept.settleClose rfl
  | eventRecordWrite => exact hend State.Acts.eventWritten.settleClose rfl

/-- Everything that a step can do: the command at the front of the queue, once it has left the queue, or the tick. -/
theorem step_endsAs (h : step s = .next t) : ∃ rest, ({ s with pending := rest } : State).EndsAs t := by
  cases hp : s.pending with
  | nil =>
    rw [step_of_nil hp] at h
    exact ⟨s.pending, Host.Outcome.next.inj h ▸ State.Acts.counted.settleClose⟩
  | cons i rest =>
    rw [step_of_cons hp] at h
    exact ⟨rest, exec_endsAs i h⟩

end Sys2Proof.Machine
end

section
/-! PROOF. The checks of one access: overflow, alignment, apertures (R83 to R94). -/
namespace Sys2Proof.Machine

/-- One enabled aperture alone covers the address and grants the permission (R91). -/
theorem aperturesAdmit_iff (aps : Vector Aperture 4) (n : Nat) (write : Bool) : aperturesAdmit aps n write = true ↔
    ∃ i : Fin 4, (aps[i.val]).control[0] = true ∧
      (if write then (aps[i.val]).control[2] = true else (aps[i.val]).control[1] = true) ∧
      ((aps[i.val]).base.toNat : Int) ≤ n ∧ (n : Int) ≤ ((aps[i.val]).limit.toNat : Int) := by
  have hway (i : WayId) : i ∈ allWays := by revert i; decide
  simp only [aperturesAdmit, List.any_eq_true, hway, true_and]
  refine exists_congr fun i => ?_
  cases write <;> simp [apertureAdmits, and_assoc]

/-- The checks that follow the overflow check, at the address used. -/
def checkUsed (aps : Vector Aperture 4) (n size : Nat) (write : Bool) : Checked :=
  if n % size ≠ 0 then .failed .misaligned (BitVec.ofNat 64 n)
  else if aperturesAdmit aps n write = true then .pass n
  else .failed .aperture (BitVec.ofNat 64 n)

theorem checkAddress_compact (aps : Vector Aperture 4) (exact : Int) (size : Nat) (write : Bool) :
    checkAddress true aps exact size write = checkUsed aps (exact % 2 ^ 32).toNat size write := by
  simp [checkAddress, checkUsed]

theorem checkAddress_overflow (aps : Vector Aperture 4) {exact : Int} (h : exact < 0 ∨ 2 ^ 64 ≤ exact) (size : Nat)
    (write : Bool) : checkAddress false aps exact size write = .failed .overflow (BitVec.ofInt 64 exact) := by
  have hout : (!false && (decide (exact < 0) || decide (((2 ^ 64 : Nat) : Int) ≤ exact))) = true := by simpa using h
  rw [checkAddress, if_pos hout]

theorem checkAddress_native (aps : Vector Aperture 4) {exact : Int} (h₀ : 0 ≤ exact) (h₁ : exact < 2 ^ 64) (size : Nat)
    (write : Bool) : checkAddress false aps exact size write = checkUsed aps exact.toNat size write := by
  have hin : ¬(!false && (decide (exact < 0) || decide (((2 ^ 64 : Nat) : Int) ≤ exact))) = true := by simp; omega
  have hmod : exact % ((2 ^ 64 : Nat) : Int) = exact := Int.emod_eq_of_lt h₀ (by simpa using h₁)
  rw [checkAddress, if_neg hin]
  simp only [Bool.false_eq_true, if_false, hmod, checkUsed, bne_iff_ne]

/-- Settles O59: the address used is a natural number in every case but overflow, and from there the order of the checks
is that of `checkUsed`. -/
theorem accessChecks : Obligations.AccessChecks := by
  intro compact aps exact size write _ used admits r
  refine ⟨fun hc h => by subst hc; exact checkAddress_overflow aps h size write, fun h => ?_⟩
  have hused : 0 ≤ used ∧ r = checkUsed aps used.toNat size write := by
    cases compact with
    | true => exact ⟨Int.emod_nonneg _ (by decide), checkAddress_compact ..⟩
    | false =>
      obtain ⟨h₀, h₁⟩ := h.resolve_left Bool.false_ne_true
      exact ⟨h₀, checkAddress_native aps h₀ h₁ size write⟩
  obtain ⟨hnonneg, hr⟩ := hused
  obtain ⟨n, hn⟩ := Int.eq_ofNat_of_zero_le hnonneg
  have hadmits : admits ↔ aperturesAdmit aps n write = true := by
    rw [aperturesAdmit_iff, ← hn]
  have haligned : (n : Int) % size = 0 ↔ n % size = 0 := by norm_cast
  rw [hr, hn, Int.toNat_natCast, BitVec.ofInt_natCast, ne_eq, haligned, hadmits]
  unfold checkUsed
  exact ⟨fun ha => if_pos ha, fun ha hout => by rw [if_neg (not_not_intro ha), if_neg hout],
    fun ha hin => by rw [if_neg (not_not_intro ha), if_pos hin]⟩

end Sys2Proof.Machine
end

section
/-! PROOF. Writes to the context save address, to the Compact bit and to the apertures of a channel (R88, R90, R110, R178):
what each rule makes of the channel. -/
namespace Sys2Proof.Machine
variable {h : Channel}

/-! ### Words -/

/-- The low 9 bits of a word are its value modulo 512 (R110). -/
theorem and_low9_eq_zero_iff (v : Word32) : v &&& 0x1FF#32 = 0 ↔ v.toNat % 512 = 0 := by
  rw [← BitVec.toNat_inj, BitVec.toNat_and]
  exact Eq.congr_left (Nat.and_two_pow_sub_one_eq_mod v.toNat 9)

/-- A word with its low 12 bits cleared (R90). -/
theorem and_granule_eq (v : Word32) : v &&& 0xFFFFF000#32 = BitVec.ofNat 32 (v.toNat / 4096 * 4096) := by
  have hmask : 0xFFFFF000#32 = BitVec.allOnes 32 <<< 12 := by decide
  have hnat : ((v >>> 12) <<< 12).toNat = v.toNat / 4096 * 4096 := by
    rw [BitVec.toNat_shiftLeft, BitVec.toNat_ushiftRight, Nat.shiftRight_eq_div_pow, Nat.shiftLeft_eq]
    omega
  rw [hmask, ← BitVec.shiftLeft_ushiftRight, ← hnat, BitVec.ofNat_toNat, BitVec.setWidth_eq]

/-- The low 12 bits are cleared. -/
theorem and_granule_and_low (v : Word32) : v &&& 0xFFFFF000#32 &&& 0xFFF#32 = 0#32 := by
  have hnone : 0xFFFFF000#32 &&& 0xFFF#32 = 0#32 := by decide
  rw [BitVec.and_assoc, hnone, BitVec.and_zero]

/-- Bits that are set later may be cleared before. -/
theorem or_eq_and_not_or {w : Nat} (x m : BitVec w) : x ||| m = x &&& ~~~m ||| m := by
  ext i
  simp only [BitVec.getElem_or, BitVec.getElem_and, BitVec.getElem_not]
  cases x[i] <;> cases m[i] <;> rfl

/-- A word with its low 12 bits set (R90). -/
theorem or_granule_eq (v : Word32) : v ||| 0xFFF#32 = BitVec.ofNat 32 (v.toNat / 4096 * 4096 + 4095) := by
  have hsplit : v ||| 0xFFF#32 = v &&& 0xFFFFF000#32 ||| 0xFFF#32 := or_eq_and_not_or v 0xFFF#32
  rw [hsplit, ← BitVec.add_eq_or_of_and_eq_zero _ _ (and_granule_and_low v), and_granule_eq, ← BitVec.ofNat_add]

/-- An address with its high word cleared (R88). -/
theorem clearHigh_eq (x : Word64) : clearHigh x = (x.extractLsb' 0 32).setWidth 64 := by
  rw [BitVec.setWidth_eq_append (by decide)]
  rfl

/-! ### The context save address -/

theorem Channel.writeCsb_eq (h : Channel) (half : Half) (v : Word32) : h.writeCsb half v =
    if h.state ≠ .disabled ∧ h.state ≠ .idle ∧ h.state ≠ .parked then { h with reason := .configWrongState }
    else if half = .low ∧ v.toNat % 512 ≠ 0 then { h with reason := .csbMisaligned }
    else if h.state = .parked ∧ h.put h.csbAddress half v = 0 then { h with reason := .configWrongState }
    else { h with csbAddress := h.put h.csbAddress half v } := by
  have hstate : (!(h.state == .disabled || h.state == .idle || h.state == .parked)) = true ↔
      h.state ≠ .disabled ∧ h.state ≠ .idle ∧ h.state ≠ .parked := by simp [and_assoc]
  simp only [Channel.writeCsb, hstate, Bool.and_eq_true, beq_iff_eq, bne_iff_ne, ne_eq, and_low9_eq_zero_iff]

/-- Settles O17: the rule of the register, its bit checks read as arithmetic. -/
theorem csbAddressWrites : Obligations.CsbAddressWrites := by
  intro s c half v ha h written
  have hput : h.put h.csbAddress half v = written := (h.put_eq h.csbAddress half v).trans (by cases half <;> rfl)
  rw [exec_csbAddress, execCsbAddress,
    State.regWrite_modCh (f := (·.writeCsb half v)) ha (fun _ => rfl) (h.writeCsb_eq half v), hput]

/-! ### The Compact bit -/

/-- Entering compact addressing mode clears the high words of every aperture and keeps its control bits (R88). -/
theorem Channel.enterCompact_aperture (h : Channel) (a : WayId) : h.enterCompact.apertures[a.val] =
    { h.apertures[a.val] with
      base := clearHigh (h.apertures[a.val]).base, limit := clearHigh (h.apertures[a.val]).limit } := by
  fin_cases a <;> simp [Channel.enterCompact, allWays]

theorem Channel.writeCompact_same (h : Channel) : h.writeCompact h.compact = h := by simp [Channel.writeCompact]

theorem Channel.writeCompact_refused {on : Bool} (hon : on ≠ h.compact) (hs : h.state ≠ .disabled) :
    h.writeCompact on = { h with reason := .configWrongState } := by simp [Channel.writeCompact, hon, hs]

theorem Channel.writeCompact_disabled {on : Bool} (hon : on ≠ h.compact) (hs : h.state = .disabled) :
    h.writeCompact on = if on then h.enterCompact else { h with compact := false } := by
  simp [Channel.writeCompact, hon, hs]

/-- Settles O18: one case for each way in which the Compact bit is written. -/
theorem compactWrites : Obligations.CompactWrites := by
  intro s c on ha h low
  have hbit : (flagAt on 1)[1] = on := by cases on <;> decide
  have hwrite (u : State) : u.writeReg (.chan c .control) (flagAt on 1) = u.modCh c (·.writeCompact on) := by
    show u.modCh c (·.writeCompact (flagAt on 1)[1]) = _
    rw [hbit]
  have hlow (x : Word64) : clearHigh x = low x := clearHigh_eq x
  refine ⟨h.writeCompact on, ?_, ?_, ?_, ?_, ?_⟩
  · rw [exec_compact, execCompact, State.regWrite_modCh ha hwrite rfl]
  · rintro rfl
    exact h.writeCompact_same
  · exact Channel.writeCompact_refused
  · rintro hon hs rfl
    exact Channel.writeCompact_disabled hon hs
  · rintro hon hs rfl
    rw [Channel.writeCompact_disabled hon hs, if_pos rfl]
    refine ⟨fun a => ?_, ?_⟩
    · rw [h.enterCompact_aperture a]
      exact ⟨hlow _, hlow _, rfl⟩
    · simp only [← hlow]
      rfl

/-! ### The apertures -/

theorem Channel.writeAperture_eq (h : Channel) (a : WayId) (f : Aperture → Aperture) : h.writeAperture a f =
    if h.state ≠ .disabled then { h with reason := .configWrongState }
    else { h with apertures := h.apertures.set a.val (f h.apertures[a.val]) } := by
  simp only [Channel.writeAperture, bne_iff_ne]

/-- Settles O19: the three registers share the check of the channel's state, and differ in the word they write. -/
theorem apertureWrites : Obligations.ApertureWrites := by
  intro s c a half v ha h x written answer
  have hput (old : Word64) (w : Word32) : h.put old half (if half == .low then w else v) = written old w := by
    cases half <;> simp [Channel.put_eq, written]
  refine ⟨?_, ?_, ?_⟩
  · rw [exec_apertureBase, execApertureBase, State.regWrite_modCh (f := (·.writeApertureBase a half v)) ha
      (fun _ => rfl) rfl, Channel.writeApertureBase, Channel.writeAperture_eq, hput, and_granule_eq]
  · rw [exec_apertureLimit, execApertureLimit, State.regWrite_modCh (f := (·.writeApertureLimit a half v)) ha
      (fun _ => rfl) rfl, Channel.writeApertureLimit, Channel.writeAperture_eq, hput, or_granule_eq]
  · rw [exec_apertureControl, execApertureControl, State.regWrite_modCh (f := (·.writeApertureControl a v)) ha
      (fun _ => rfl) (h.writeAperture_eq a _)]
    rfl

end Sys2Proof.Machine
end

section
/-! PROOF. The apertures of every channel stay in granules of 4 KiB (R90; O9).  Only the three aperture registers, the
Compact bit and the resets write an aperture; what the part does of its own accord keeps them all (O13). -/
namespace Sys2Proof.Machine

/-! ### Words -/

/-- The place in its granule of an address, of which the low word is `lo` (R90). -/
theorem granule_append (hi lo : Word32) : (hi ++ lo) &&& 0xFFF#64 = 0#32 ++ (lo &&& 0xFFF#32) := by
  have hmask : 0xFFF#64 = 0#32 ++ 0xFFF#32 := by decide
  rw [hmask, BitVec.and_append, BitVec.and_zero]

/-- The low word of an address decides its place in its granule. -/
theorem granule_low (hi : Word32) (x : Word64) : (hi ++ x.extractLsb' 0 32) &&& 0xFFF#64 = x &&& 0xFFF#64 := by
  have hx : x.extractLsb' 32 32 ++ x.extractLsb' 0 32 = x := by
    have hparts : (32 : Nat) = 0 + 32 := rfl
    simpa using BitVec.extractLsb'_append_extractLsb'_eq_extractLsb' (x := x) (len₂ := 32) hparts
  rw [granule_append, ← granule_append (x.extractLsb' 32 32), hx]

theorem granule_clearHigh (x : Word64) : clearHigh x &&& 0xFFF#64 = x &&& 0xFFF#64 := granule_low 0 x

/-- A write to a high word leaves an address at its place in its granule. -/
theorem granule_put_high (h : Channel) (x : Word64) (v : Word32) : h.put x .high v &&& 0xFFF#64 = x &&& 0xFFF#64 := by
  rw [h.put_eq]
  dsimp only
  split
  · rfl
  · exact granule_low v x

theorem granule_put_low (h : Channel) (x : Word64) (v : Word32) :
    h.put x .low v &&& 0xFFF#64 = 0#32 ++ (v &&& 0xFFF#32) := by
  rw [h.put_eq]
  exact granule_append _ v

/-- The low 12 bits are set. -/
theorem or_granule_and_low (v : Word32) : (v ||| 0xFFF#32) &&& 0xFFF#32 = 0xFFF#32 := by
  rw [or_eq_and_not_or, BitVec.and_or_distrib_right, BitVec.and_self]
  exact congrArg (· ||| 0xFFF#32) (and_granule_and_low v)

/-! ### Apertures and channels -/

/-- The aperture covers whole granules (R90). -/
def Aperture.Granular (x : Aperture) : Prop := x.base &&& 0xFFF#64 = 0 ∧ x.limit &&& 0xFFF#64 = 0xFFF#64

/-- Every aperture of the channel covers whole granules. -/
def Channel.Granular (h : Channel) : Prop := ∀ a : WayId, (h.apertures[a.val]).Granular

theorem State.aperturesGranular_iff {s : State} : s.AperturesGranular ↔ ∀ c, (s.ch c).Granular := .rfl

namespace Channel.Granular
variable {h : Channel} (k : h.Granular)
include k

/-- A channel with the apertures of another. -/
theorem of_same {l : Channel} (hl : l.apertures = h.apertures) : l.Granular := by
  unfold Channel.Granular
  rwa [hl]

/-- A write to an aperture that keeps it granular. -/
theorem writeAperture (a : WayId) {f : Aperture → Aperture} (hf : ∀ x : Aperture, x.Granular → (f x).Granular) :
    (h.writeAperture a f).Granular := by
  rw [h.writeAperture_eq]
  split
  · exact k
  · intro b
    dsimp only
    rw [Vector.getElem_set]
    split
    · exact hf _ (k a)
    · exact k b

/-- The low 12 bits written to a base are cleared (R90). -/
theorem writeApertureBase (a : WayId) (half : Half) (v : Word32) : (h.writeApertureBase a half v).Granular := by
  refine k.writeAperture a fun x hx => ⟨?_, hx.2⟩
  cases half with
  | low => exact (granule_put_low h x.base _).trans (congrArg (0#32 ++ ·) (and_granule_and_low v))
  | high => exact (granule_put_high h x.base v).trans hx.1

/-- The low 12 bits written to a limit are set (R90). -/
theorem writeApertureLimit (a : WayId) (half : Half) (v : Word32) : (h.writeApertureLimit a half v).Granular := by
  refine k.writeAperture a fun x hx => ⟨hx.1, ?_⟩
  cases half with
  | low => exact (granule_put_low h x.limit _).trans (congrArg (0#32 ++ ·) (or_granule_and_low v))
  | high => exact (granule_put_high h x.limit v).trans hx.2

theorem writeApertureControl (a : WayId) (v : Word32) : (h.writeApertureControl a v).Granular :=
  k.writeAperture a fun _ hx => hx

theorem enterCompact : h.enterCompact.Granular := fun a => by
  rw [h.enterCompact_aperture a]
  exact ⟨(granule_clearHigh _).trans (k a).1, (granule_clearHigh _).trans (k a).2⟩

theorem writeCompact (on : Bool) : (h.writeCompact on).Granular := by
  unfold Channel.writeCompact
  split
  · exact k
  · split
    · exact k
    · split
      · exact k.enterCompact
      · exact k

end Channel.Granular

/-! ### Writes to the other channel registers -/

section OtherRegisters
variable (h : Channel) (v : Word32)

theorem Channel.writeRingSize_apertures : (h.writeRingSize v).apertures = h.apertures := by
  rw [h.writeRingSize_eq]
  split
  · rfl
  · split <;> rfl

theorem Channel.writeExpediteSize_apertures : (h.writeExpediteSize v).apertures = h.apertures := by
  rw [h.writeExpediteSize_eq]
  split
  · rfl
  · split <;> rfl

theorem Channel.writeRingBase_apertures (half : Half) : (h.writeRingBase half v).apertures = h.apertures := by
  unfold Channel.writeRingBase
  split <;> rfl

theorem Channel.writeExpediteBase_apertures (half : Half) : (h.writeExpediteBase half v).apertures = h.apertures := by
  unfold Channel.writeExpediteBase
  split <;> rfl

theorem Channel.writeCsb_apertures (half : Half) : (h.writeCsb half v).apertures = h.apertures := by
  rw [h.writeCsb_eq]
  split
  · rfl
  · split
    · rfl
    · split <;> rfl

theorem Channel.writeAcw_apertures : (h.writeAcw v).apertures = h.apertures := by
  rw [h.writeAcw_eq]
  split
  · rfl
  · split <;> rfl

theorem Channel.writeProducer_apertures : (h.writeProducer v).apertures = h.apertures := by
  unfold Channel.writeProducer
  split <;> rfl

theorem Channel.claimLatched_apertures : h.claimLatched.apertures = h.apertures := by
  unfold Channel.claimLatched
  split <;> rfl

theorem Channel.writeExpediteProducer_apertures : (h.writeExpediteProducer v).apertures = h.apertures := by
  unfold Channel.writeExpediteProducer
  split
  · rfl
  · dsimp only
    split
    · rfl
    · exact Channel.claimLatched_apertures _

end OtherRegisters

namespace State.AperturesGranular
variable {s : State} {c : Chan}

/-! ### States -/

section States
variable (hs : s.AperturesGranular)
include hs

/-- The channels are the same. -/
theorem of_chans {t : State} (hc : t.chans = s.chans) : t.AperturesGranular := State.aperturesGranular_iff.2 fun d => by
  rw [State.ch_congr hc]
  exact hs d

/-- Everything that the host has configured stays (O13). -/
theorem of_settles {t : State} (h : s.Settles (fun _ => False) t) : t.AperturesGranular :=
  State.aperturesGranular_iff.2 fun d => by
    have hsetup := h.chans d
    simp only [Channel.setup, Prod.mk.injEq] at hsetup
    obtain ⟨-, -, hapertures, -, -⟩ := hsetup
    exact Channel.Granular.of_same (hs d) hapertures

/-- A change of one channel that keeps its apertures granular. -/
theorem modCh {f : Channel → Channel} (hf : ∀ h : Channel, h.Granular → (f h).Granular) :
    (s.modCh c f).AperturesGranular := State.aperturesGranular_iff.2 fun d => by
  rw [State.modCh, State.ch_setCh]
  split
  · exact hf _ (hs c)
  · exact hs d

/-- A change of one channel that leaves its apertures. -/
theorem modCh_same {f : Channel → Channel} (hf : ∀ h, (f h).apertures = h.apertures) :
    (s.modCh c f).AperturesGranular := hs.modCh fun h k => k.of_same (hf h)

omit hs in
/-- Changes made in turn. -/
theorem foldl {α : Type} {g : State → α → State} (hg : ∀ (s : State) a, s.AperturesGranular → (g s a).AperturesGranular) :
    ∀ (xs : List α) {s : State}, s.AperturesGranular → (xs.foldl g s).AperturesGranular
  | [], _, hs => hs
  | x :: xs, _, hs => foldl hg xs (hg _ x hs)

theorem forChans {f : Chan → State → State} (hf : ∀ c (s : State), s.AperturesGranular → (f c s).AperturesGranular) :
    (s.forChans f).AperturesGranular := foldl (fun s c => hf c s) _ hs

theorem close : s.close.AperturesGranular := hs.of_chans s.close_chans

theorem settleClose : s.settleClose.AperturesGranular :=
  close (hs.of_settles (State.settle_settles fun _ h => h.elim))

/-! ### Resets and channel commands -/

omit hs in
theorem powerOn (s : State) : s.powerOn.AperturesGranular := State.reset_aperturesGranular.of_chans rfl

omit hs in
theorem deviceReset (s : State) : s.deviceReset.AperturesGranular := State.reset_aperturesGranular.of_chans rfl

/-- A Channel Reset keeps the apertures (R173). -/
theorem channelReset (c : Chan) : (s.channelReset c).AperturesGranular := by
  unfold State.channelReset
  extract_lets given swept
  have hgiven : given.AperturesGranular := hs.of_chans (s.abandonAll_chans c _)
  have hswept : swept.AperturesGranular := hgiven.of_chans rfl
  exact hswept.modCh_same fun _ => by rfl

/-- A Soft Init keeps the apertures (R171, Table 11-1). -/
theorem softInit : s.softInit.AperturesGranular := by
  unfold State.softInit
  split
  · unfold State.softInitAgain
    have hdevice (x : Device) : ({ s with device := x } : State).AperturesGranular := hs.of_chans rfl
    exact (hdevice _).forChans fun _ _ hs => hs.modCh_same fun _ => by rfl
  · extract_lets released link kept isChannels orphaned reset
    have hreleased : released.AperturesGranular :=
      hs.of_chans (foldl_keeps (p := State.chans) (fun s c => s.releaseGrant_chans c) _ _)
    have hkept : kept.AperturesGranular := hreleased.of_chans rfl
    have horphaned : orphaned.AperturesGranular := hkept.of_chans (kept.orphan_chans _)
    have hreset : reset.AperturesGranular := horphaned.forChans fun _ _ hs => hs.modCh_same fun _ => by rfl
    exact hreset.of_chans rfl

theorem reject (c : Chan) (r : Reason) : (s.reject c r).AperturesGranular := hs.modCh_same fun _ => by rfl

theorem accept (c : Chan) (cmd : ChanCmd) : (s.accept c cmd).AperturesGranular := by
  have hcleared : (s.modCh c fun h => { h with reason := .none }).AperturesGranular := hs.modCh_same fun _ => by rfl
  unfold State.accept
  cases cmd with
  | enable => exact hcleared.modCh_same fun _ => by rfl
  | disable => exact hcleared.of_settles (.modCh fun h => h.disabled_settles id)
  | reset => exact hcleared.channelReset c
  | park => exact hcleared.of_settles (State.acceptPark_settles id)
  | unpark => exact hcleared.of_settles (State.beginRestore_settles id _)
  | resumeRetry | resumeSkip | resumeSubstitute | resumeAbandon =>
    exact hcleared.of_settles (State.resume_settles id _)

theorem judge (c : Chan) (cmd : ChanCmd) : (s.judge c cmd).AperturesGranular := by
  unfold State.judge
  split
  · exact hs.accept _ _
  · split
    · exact hs.reject _ _
    · split
      · exact hs.reject _ _
      · split
        · exact hs.reject _ _
        · exact hs.accept _ _

theorem claimLatched : (s.modCh c Channel.claimLatched).AperturesGranular :=
  hs.modCh_same Channel.claimLatched_apertures

theorem command (c : Chan) (cmd : ChanCmd) : (s.command c cmd).AperturesGranular := by
  unfold State.command
  split
  · unfold State.judgeNow
    dsimp only
    split
    · exact (hs.judge _ _).claimLatched
    · exact hs.judge _ _
  · split
    · exact hs.modCh_same fun _ => by rfl
    · exact hs.reject _ _

/-! ### Device Control -/

theorem release : s.release.AperturesGranular := by
  unfold State.release
  extract_lets d active lists freed judged
  have hactive : active.AperturesGranular := hs.of_chans rfl
  have hfreed : freed.AperturesGranular := hactive.forChans fun _ _ hs => hs.modCh_same fun _ => by rfl
  have hjudged : judged.AperturesGranular :=
    hfreed.forChans fun c _ hs => foldl (fun _ cmd hs => hs.judge c cmd) _ hs
  exact hjudged.forChans fun _ _ hs => hs.claimLatched

theorem controlEffect (w : Word32) : (s.controlEffect w).AperturesGranular := by
  unfold State.controlEffect
  split
  · exact hs.softInit
  · extract_lets changes d enabled
    have henabled : enabled.AperturesGranular := hs.of_chans rfl
    split
    · exact henabled.of_chans rfl
    · split
      · exact henabled.of_chans rfl
      · split
        · split
          · exact henabled.of_chans rfl
          · exact henabled.release
        · exact henabled

theorem deviceControl (w : Word32) : (s.deviceControl w).AperturesGranular := by
  unfold State.deviceControl
  split
  · exact deviceReset s
  · split
    · exact hs.controlEffect w
    · exact hs.of_chans rfl

/-! ### Responses -/

theorem answered (r : Req) (resp : Response) : (s.answered r resp).AperturesGranular := by
  unfold State.answered
  split
  · exact hs.of_chans (s.fillData_chans ..)
  · exact hs.of_chans (s.fillData_chans ..)
  · exact hs.of_chans rfl
  · exact hs.of_chans rfl
  · exact hs.of_settles (State.deliverRead_settles _ _)
  · exact hs.of_chans rfl
  · exact hs.of_chans (s.writeDone_chans r)
  · exact hs

theorem enterFatal : s.enterFatal.AperturesGranular := by
  have hfatal : ({ s with engine := { s.engine with fatal := true } } : State).AperturesGranular := hs.of_chans rfl
  exact hfatal.forChans fun _ _ hs => hs.modCh_same fun _ => by rfl

theorem writeFailed (r : Req) (reason : FailReason) : (s.writeFailed r reason).AperturesGranular := by
  have herror (c : Chan) (cause : ErrCause) (kind : EventKind) (detail : Word64) :
      (s.enterError c cause kind detail).AperturesGranular :=
    hs.of_settles (State.enterError_settles (fun h => h.elim) ..)
  unfold State.writeFailed
  split
  · exact hs
  · split
    · exact hs.of_settles (State.bypassFailed_settles ..)
    · exact herror _ _ _ _
    · exact herror _ _ _ _
    · exact hs.enterFatal
    · exact hs

theorem failed (r : Req) (reason : FailReason) : (s.failed r reason).AperturesGranular := by
  have hline : (if r.isPrefetch then s.prefetchFailed r reason else s.lineFail r reason).AperturesGranular := by
    split <;> exact hs.of_chans rfl
  unfold State.failed
  cases r.kind with
  | fetchShared | fetchOwned | upgrade => exact hline
  | writeLine => exact hs.of_chans rfl
  | readDirect => exact hs.of_settles (State.readFailed_settles (fun _ h => h.elim) ..)
  | writePartial => exact hs.writeFailed _ _

theorem receive (t : TagId) (gen : Bool) (resp : Response) : (s.receive t gen resp).AperturesGranular := by
  unfold State.receive
  split
  · have hfreed : (s.freeOutstanding t).AperturesGranular := hs.of_chans rfl
    unfold State.outcome
    split
    · exact hfreed.failed _ _
    · exact hfreed.answered _ _
  · exact hs.of_chans rfl

theorem expire (t : TagId) : (s.expire t).AperturesGranular := by
  unfold State.expire
  dsimp only
  split
  · split
    · exact hs
    · have hended : ({ s with link := s.link.putTag t (s.link.tag t).expire } : State).AperturesGranular :=
        hs.of_chans rfl
      exact hended.failed _ _
  · exact hs

/-! ### Writes to registers -/

theorem writeCommand (c : Chan) (v : Word32) : (s.writeCommand c v).AperturesGranular := by
  unfold State.writeCommand
  split
  · exact hs.command _ _
  · exact hs.reject _ _

/-- The host writes an aperture in whole granules only (R90). -/
theorem writeChan (c : Chan) (r : ChanReg) (v : Word32) : (s.writeChan c r v).AperturesGranular := by
  cases r with
  | apertureBase a half => exact hs.modCh fun _ k => k.writeApertureBase a half v
  | apertureLimit a half => exact hs.modCh fun _ k => k.writeApertureLimit a half v
  | apertureControl a => exact hs.modCh fun _ k => k.writeApertureControl a v
  | control => exact hs.modCh fun _ k => k.writeCompact _
  | command => exact hs.writeCommand c v
  | status => exact hs.modCh_same fun _ => by rfl
  | acw => exact hs.modCh_same fun h => h.writeAcw_apertures v
  | ringBase half => exact hs.modCh_same fun h => h.writeRingBase_apertures v half
  | ringSize => exact hs.modCh_same fun h => h.writeRingSize_apertures v
  | ringProducer => exact hs.modCh_same fun h => h.writeProducer_apertures v
  | expediteBase half => exact hs.modCh_same fun h => h.writeExpediteBase_apertures v half
  | expediteSize => exact hs.modCh_same fun h => h.writeExpediteSize_apertures v
  | expediteProducer => exact hs.modCh_same fun h => h.writeExpediteProducer_apertures v
  | csbAddress half => exact hs.modCh_same fun h => h.writeCsb_apertures v half
  | ringConsumer | expediteConsumer | linkDepth | faultWord i => exact hs

theorem writeReg (r : Reg) (v : Word32) : (s.writeReg r v).AperturesGranular := by
  cases r with
  | deviceControl => exact hs.deviceControl v
  | cacheControl => exact hs.of_chans (s.writeCacheControl_chans v)
  | eventBase half => exact hs.of_chans (s.writeEventBase_chans half v)
  | eventSize => exact hs.of_chans (s.writeEventSize_chans v)
  | eventHead => exact hs.of_chans (s.writeEventHead_chans v)
  | chan c r => exact hs.writeChan c r v
  | deviceStatus | responseTimeout | dozeDelay | lostEvents | lateCount | lostWriteBacks | prefetchFails =>
    exact hs.of_chans rfl
  | id | capability | resetCause | acwMask | eventTail => exact hs

theorem offer (r : Option Reg) (v : Word32) : (s.offer r v).AperturesGranular := by
  unfold State.offer
  extract_lets woken device written
  have hwoken : woken.AperturesGranular := hs.of_chans rfl
  have hwritten : written.AperturesGranular := by
    dsimp only [written]
    split
    · exact hwoken.of_chans rfl
    · cases r with
      | none => exact hwoken
      | some r => exact hwoken.writeReg r v
  exact hwritten.of_chans rfl

/-! ### Every step -/

/-- Whatever a command acts by (one case for each, `exec_endsAs`). -/
theorem acts {u : State} (h : s.Acts u) : u.AperturesGranular := by
  have hbegun : s.begin.AperturesGranular := hs.of_chans rfl
  cases h with
  | offer r v => exact hs.offer r v
  | idle => exact hbegun
  | offerPartial | woken | dozed => exact hs.of_chans rfl
  | probed address invalidate => exact hbegun.of_chans (s.begin.probe_chans address invalidate)
  | granted => exact hbegun.of_settles State.grantBeat_settles
  | received tag gen resp => exact hbegun.receive tag gen resp
  | expired tag => exact hbegun.expire tag
  | swept => exact hbegun.of_chans s.begin.sweepNext_chans
  | eventWritten => exact hbegun.of_chans s.begin.writeEvent_chans
  | counted => exact hs.of_chans s.counted_chans

theorem endsAs {t : State} (h : s.EndsAs t) : t.AperturesGranular := by
  obtain rfl | ⟨u, hu, rfl | rfl⟩ := h
  · exact powerOn s
  · exact (hs.acts hu).close
  · exact (hs.acts hu).settleClose

theorem step {t : State} (h : step s = .next t) : t.AperturesGranular := by
  obtain ⟨rest, h⟩ := step_endsAs h
  have hrest : ({ s with pending := rest } : State).AperturesGranular := hs.of_chans rfl
  exact hrest.endsAs h

end States
end State.AperturesGranular

/-- Settles O9: an aperture comes from the host's write of a word in whole granules, the clearing of high words on entry
into compact addressing mode, a reset, or another granular aperture. -/
theorem stepKeepsAperturesGranular : Obligations.StepKeepsAperturesGranular := fun _ _ hs h => hs.step h

end Sys2Proof.Machine
end

section
/-! PROOF. RESUME_RETRY of a fault of a beat, RESUME_SKIP and RESUME_SUBSTITUTE, and the Resume commands that are
rejected (R102 to R105, R124). -/
namespace Sys2Proof.Machine
variable {s : State} {c : Chan}

/-! ### What a Resume makes of the channel -/

/-- An accepted Skip gives up the current beat, after the common part of every Resume (R102, R104). -/
theorem State.accept_skip (s : State) (c : Chan) :
    s.accept c .resumeSkip = s.setCh c (s.ch c).takenUp.skipBeat := by
  have h : s.accept c .resumeSkip =
      ((s.modCh c fun h => { h with reason := .none }).modCh c Channel.resumed).modCh c Channel.skipBeat := rfl
  rw [h, State.takenUp_eq, State.modCh, State.ch_setCh_same, State.setCh_setCh]

/-- An accepted Substitute owes a full-masked attempt, after the common part of every Resume (R102, R105). -/
theorem State.accept_substitute (s : State) (c : Chan) :
    s.accept c .resumeSubstitute = s.setCh c { (s.ch c).takenUp with owedAttempt := .fullMasked } := by
  have h : s.accept c .resumeSubstitute = ((s.modCh c fun h => { h with reason := .none }).modCh c
      Channel.resumed).modCh c fun h => { h with owedAttempt := .fullMasked } := rfl
  rw [h, State.takenUp_eq, State.modCh, State.ch_setCh_same, State.setCh_setCh]

/-- Retry of a fault of a beat owes an ordinary attempt at it (R103). -/
theorem State.accept_retry_beat (hb : (s.ch c).fault.kind.ofBeat = true) :
    s.accept c .resumeRetry = s.setCh c { (s.ch c).takenUp with owedAttempt := .ordinary } := by
  rw [State.accept_retry, State.takenUp_eq, State.retry, if_pos hb, State.modCh, State.ch_setCh_same, State.setCh_setCh]

theorem Channel.skipBeat_eq {h : Channel} {x : Current} (hx : h.current = some x) : h.skipBeat = { h with
    current := some { x with beat := x.beat + 1, skipped := x.skipped + 1 }
    phase := if x.beat + 1 < descBeats x.image then .job else .ending } := by
  simp only [Channel.skipBeat, hx]

/-! ### Where a Resume is admitted -/

/-- The four Resume commands. -/
def ChanCmd.isResume (cmd : ChanCmd) : Bool :=
  cmd == .resumeRetry || cmd == .resumeSkip || cmd == .resumeSubstitute || cmd == .resumeAbandon

/-- The rule of the Resume commands (R102, Table 5-2). -/
theorem Channel.refusal_resume (h : Channel) {cmd : ChanCmd} (hc : cmd.isResume = true) : h.refusal cmd =
    if h.state ≠ .faulted then some .notFaulted
    else if resumeAdmits h.fault.kind cmd then none
    else some .resumeNotAllowed := by
  cases cmd with
  | resumeRetry | resumeSkip | resumeSubstitute | resumeAbandon => simp only [Channel.refusal, bne_iff_ne]
  | enable | disable | reset | park | unpark => cases hc

theorem resumeAdmits_skip (k : FaultKind) : resumeAdmits k .resumeSkip = k.ofBeat := rfl

theorem resumeAdmits_substitute (k : FaultKind) : resumeAdmits k .resumeSubstitute = (k == .arithmetic) := rfl

section Commands
variable (hp : s.device.power = .active ∨ s.device.power = .doze) (hf : s.engine.fatal = false) {cmd : ChanCmd}
include hp hf

/-- A Resume that is accepted and changes the channel alone: the doorbell that is latched then claims its park (R124;
log 42). -/
theorem State.commandWrite_resume (hs : (s.ch c).state = .faulted) (hc : cmd.isResume = true)
    (ha : resumeAdmits (s.ch c).fault.kind cmd = true) {k : Channel}
    (hk : s.begin.wakeDoze.accept c cmd = s.begin.wakeDoze.setCh c k) :
    s.commandWrite c cmd = (s.acknowledged.setCh c k.claimLatched).settleClose := by
  have hreset : cmd ≠ .reset := by rintro rfl; cases hc
  have hr : (s.ch c).refusal cmd = none := by rw [Channel.refusal_resume _ hc, if_neg (not_not.2 hs), if_pos ha]
  rw [State.commandWrite_resumed hp hf hs hreset hr, hk, State.modCh, State.ch_setCh_same, State.setCh_setCh,
    State.setCh_send]

/-- A Resume that Table 5-2 rules out for the kind of fault. -/
theorem State.commandWrite_resumeNotAllowed (hs : (s.ch c).state = .faulted) (hc : cmd.isResume = true)
    (ha : resumeAdmits (s.ch c).fault.kind cmd = false) :
    s.commandWrite c cmd = (s.acknowledged.setCh c { s.ch c with reason := .resumeNotAllowed }).settleClose := by
  refine State.commandWrite_refused hp hf (by simp [hs]) (by rintro rfl; cases hc) ?_
  rw [Channel.refusal_resume _ hc, if_neg (not_not.2 hs), ha, if_neg Bool.false_ne_true]

/-- A Resume of a channel that is not in Faulted. -/
theorem State.commandWrite_notFaulted (hs : (s.ch c).state ≠ .faulted) (he : (s.ch c).state ≠ .error)
    (hc : cmd.isResume = true) :
    s.commandWrite c cmd = (s.acknowledged.setCh c { s.ch c with reason := .notFaulted }).settleClose :=
  State.commandWrite_refused hp hf he (by rintro rfl; cases hc) (by rw [Channel.refusal_resume _ hc, if_pos hs])

end Commands

/-- Settles O38. -/
theorem resumeBeatFaults : Obligations.ResumeBeatFaults := by
  intro s c hp hf h becomes beat resumed latched
  have hbeat : h.fault.kind.ofBeat = true ↔ beat := FaultKind.ofBeat_iff _
  have hlatched {k : Channel} (hk : k.state = h.takenUp.state) : k.claimLatched = latched k :=
    Channel.claimLatched_of_not_waiting (hk ▸ h.takenUp_state.1)
  have hresumes {cmd : ChanCmd} {k k' : Channel} (hs : h.state = .faulted) (hc : cmd.isResume = true)
      (ha : resumeAdmits h.fault.kind cmd = true) (hk : s.begin.wakeDoze.accept c cmd = s.begin.wakeDoze.setCh c k)
      (hkk : k = k') (hst : k.state = h.takenUp.state) :
      Host.Outcome.next (s.commandWrite c cmd) = becomes (latched k') := by
    rw [State.commandWrite_resume hp hf hs hc ha hk, hlatched hst, hkk]
  refine ⟨fun hs hb => ⟨?_, fun x hx => ?_⟩, fun hs ha => ?_, fun hs hb => ?_, fun hs ha => ?_, fun hs he i hi => ?_⟩
  · have hretry := State.accept_retry_beat (s := s.begin.wakeDoze) (c := c) (hbeat.2 hb)
    rw [State.wakeDoze_ch, State.begin_ch] at hretry
    rw [exec_resumeRetry, execResumeRetry]
    exact hresumes hs rfl rfl hretry rfl rfl
  · have hskip := State.accept_skip s.begin.wakeDoze c
    rw [State.wakeDoze_ch, State.begin_ch, Channel.skipBeat_eq (h := (s.ch c).takenUp) hx] at hskip
    rw [exec_resumeSkip, execResumeSkip]
    exact hresumes hs rfl (hbeat.2 hb) hskip rfl rfl
  · have hsubstitute := State.accept_substitute s.begin.wakeDoze c
    rw [State.wakeDoze_ch, State.begin_ch] at hsubstitute
    rw [exec_resumeSubstitute, execResumeSubstitute]
    exact hresumes hs rfl (beq_iff_eq.2 ha) hsubstitute rfl rfl
  · have hn := (resumeAdmits_skip h.fault.kind).trans (Bool.eq_false_iff.2 (mt hbeat.1 hb))
    rw [exec_resumeSkip, execResumeSkip, State.commandWrite_resumeNotAllowed hp hf hs rfl hn]
  · have hn := (resumeAdmits_substitute h.fault.kind).trans (beq_eq_false_iff_ne.2 ha)
    rw [exec_resumeSubstitute, execResumeSubstitute, State.commandWrite_resumeNotAllowed hp hf hs rfl hn]
  · have hrefused {cmd : ChanCmd} (hc : cmd.isResume = true) :
        Host.Outcome.next (s.commandWrite c cmd) = becomes { h with reason := .notFaulted } := by
      rw [State.commandWrite_notFaulted hp hf hs he hc]
    simp only [List.mem_cons, List.not_mem_nil, or_false] at hi
    obtain rfl | rfl | rfl | rfl := hi
    · exact hrefused (cmd := .resumeRetry) rfl
    · exact hrefused (cmd := .resumeSkip) rfl
    · exact hrefused (cmd := .resumeSubstitute) rfl
    · exact hrefused (cmd := .resumeAbandon) rfl

end Sys2Proof.Machine
end

section
/-! PROOF. RESPONSE_TIMEOUT, LATE_RESPONSE, and a matched response that Table 9-1 does not list for its request (R101,
R151, R156, R157). -/
namespace Sys2Proof.Machine
variable {s : State} {t : TagId} {g : Bool} {r : Req}

/-! ### Expiry -/

/-- No timeout expires for a tag that is not outstanding, or whose request has none (R157; log 2). -/
theorem State.expire_none
    (h : (s.link.tag t).state ≠ .outstanding ∨ (s.link.tag t).record = none ∨
      (s.link.tag t).record.any (fun x => x.timeout == 0) = true) : s.expire t = s := by
  simp only [State.expire]
  split
  · next o hs hr =>
    have hzero : (o.timeout == 0) = true := by simpa [hs, hr] using h
    exact if_pos hzero
  · rfl

/-! ### Late responses -/

/-- A response is late where its tag is not outstanding or has the other generation bit (R156). -/
theorem Link.matched_none {l : Link} (h : (l.tag t).state ≠ .outstanding ∨ (l.tag t).gen ≠ g) :
    l.matched t g = none := by
  rw [Link.matched, if_neg]
  simp only [Bool.and_eq_true, beq_iff_eq]
  exact not_and_or.2 h

/-- A late response is counted, and the stale mark stays only where it names the tag's own generation (R156; log 33). -/
theorem State.late_eq (s : State) (t : TagId) (g : Bool) : s.late t g = { s with link :=
    { s.link.putTag t { s.link.tag t with stale := (s.link.tag t).stale && (g == (s.link.tag t).gen) } with
      lateCount := min (s.link.lateCount + 1) 65535 } } := by
  have hcleared : ∀ a b : Bool, (a && !b) = true → (a && b) = false := by decide
  have hkept : ∀ a b : Bool, (a && !b) = false → (a && b) = a := by decide
  cases hc : (s.link.tag t).stale && g != (s.link.tag t).gen with
  | true =>
    rw [hcleared _ _ hc]
    simp only [State.late, hc, if_true]
    rfl
  | false =>
    have hsame : s.link.putTag t { s.link.tag t with stale := (s.link.tag t).stale } = s.link := Link.putTag_tag ..
    rw [hkept _ _ hc, hsame]
    simp only [State.late, hc, Bool.false_eq_true, if_false]
    rfl

/-! ### Responses that are not listed -/

/-- Data for a write, and Data with grant Shared where ownership was asked for, are not listed (Table 9-1). -/
theorem ReqKind.accepts_data_false {k : ReqKind} {grant : Grant}
    (h : k = .writeLine ∨ k = .writePartial ∨ (grant = .shared ∧ (k = .fetchOwned ∨ k = .upgrade))) (bytes : Line) :
    k.accepts (.data grant bytes) = false := by
  obtain rfl | rfl | ⟨rfl, rfl | rfl⟩ := h <;> rfl

/-- Done for a request that asks for bytes is not listed (Table 9-1). -/
theorem ReqKind.accepts_done_false {k : ReqKind} (h : k = .fetchShared ∨ k = .fetchOwned ∨ k = .readDirect) :
    k.accepts .done = false := by
  obtain rfl | rfl | rfl := h <;> rfl

/-- A matched response that is not listed ends its request as failed, with reason DecodeError (R151). -/
theorem State.arrive_unlisted (h : s.Awaits t g r) {resp : Response} (hr : r.kind.accepts resp = false) :
    s.arrive t g resp = ((s.ended t).failed r .decodeError).settleClose := by
  rw [State.arrive, State.receive_awaits h, State.outcome_unlisted _ hr]

/-- The rows that carry Data all act by the request that the tag holds (log 3). -/
theorem exec_data_row {i : Instr} {grant : Grant} {bytes : Line}
    (hi : i ∈ ([.fetchSharedData t g grant bytes, .siblingPrefetchData t g grant bytes, .fetchOwnedData t g grant bytes,
      .upgradeData t g grant bytes, .readDirectData t g grant bytes, .descriptorHalfData t g grant bytes,
      .csbReadData t g grant bytes] : List Instr)) : exec i s = .next (s.arrive t g (.data grant bytes)) := by
  simp only [List.mem_cons, List.not_mem_nil, or_false] at hi
  obtain rfl | rfl | rfl | rfl | rfl | rfl | rfl := hi <;> rfl

/-- The rows that carry Done all act by the request that the tag holds (log 3). -/
theorem exec_done_row {i : Instr}
    (hi : i ∈ ([.upgradeDone t g, .bypassWriteDone t g, .completionRecordDone t g, .csbWriteDone t g,
      .eventRecordDone t g, .writelineDone t g] : List Instr)) : exec i s = .next (s.arrive t g .done) := by
  simp only [List.mem_cons, List.not_mem_nil, or_false] at hi
  obtain rfl | rfl | rfl | rfl | rfl | rfl := hi <;> rfl

/-- Settles O43. -/
theorem timeoutAndLateResponse : Obligations.TimeoutAndLateResponse := by
  intro s t g resp x expired
  refine ⟨fun o hx hr ht => ?_, fun hx => ?_, ?_⟩
  · rw [exec_responseTimeout, execResponseTimeout, State.expire_eq hx hr ht]
    rfl
  · rw [exec_responseTimeout, execResponseTimeout, State.expire_none (s := s.begin) hx]
    rfl
  intro unmarked
  refine ⟨fun hx => ?_, fun r grant bytes h => ⟨fun hk i hi => ?_, fun hk i hi => ?_⟩⟩
  · rw [exec_lateResponse, execLateResponse, State.arrive, State.receive, Link.matched_none (l := s.begin.link) hx]
    exact congrArg _ (congrArg State.settleClose (State.late_eq s.begin t g))
  · rw [exec_data_row hi, State.arrive_unlisted h (ReqKind.accepts_data_false hk bytes)]
  · rw [exec_done_row hi, State.arrive_unlisted h (ReqKind.accepts_done_false hk)]

end Sys2Proof.Machine
end

section
/-! PROOF. What a failed write does for its owner (R100, R109, R133, R143). -/
namespace Sys2Proof.Machine
variable {s u : State} {t : TagId} {g : Bool} {r : Req} {c : Chan} {reason : FailReason}

/-! ### The Fail of a masked write -/

theorem State.failed_writePartial (hk : r.kind = .writePartial) (reason : FailReason) :
    u.failed r reason = u.writeFailed r reason := by
  simp only [State.failed, hk]

/-- A write that has been given up fails without an effect. -/
theorem State.writeFailed_orphan (ho : r.orphan = true) (reason : FailReason) : u.writeFailed r reason = u := by
  rw [State.writeFailed, if_pos ho]

section NotGivenUp
variable (ho : r.orphan = false)
include ho

theorem State.writeFailed_bypass {beat : Nat} {lanes : List (Nat × Nat)} (hc : r.owner = .channel c)
    (hp : r.purpose = .bypass beat lanes) (reason : FailReason) :
    u.writeFailed r reason = u.bypassFailed c beat lanes reason := by
  simp only [State.writeFailed, ho, hp, hc, Bool.false_eq_true, if_false]

theorem State.writeFailed_record {e : Option Event} (hc : r.owner = .channel c) (hp : r.purpose = .record e)
    (reason : FailReason) : u.writeFailed r reason =
      u.enterError c .completionWriteFailed .channelError (BitVec.ofNat 64 r.firstByte) := by
  simp only [State.writeFailed, ho, hp, hc, Bool.false_eq_true, if_false]

theorem State.writeFailed_block (hc : r.owner = .channel c) (hp : r.purpose = .csbSave) (reason : FailReason) :
    u.writeFailed r reason = u.enterError c .csbWriteFailed .channelError (BitVec.ofNat 64 r.firstByte) := by
  simp only [State.writeFailed, ho, hp, hc, Bool.false_eq_true, if_false]

theorem State.writeFailed_event {live : Bool} (hp : r.purpose = .event live) (reason : FailReason) :
    u.writeFailed r reason = u.enterFatal := by
  simp only [State.writeFailed, ho, hp, Bool.false_eq_true, if_false]

end NotGivenUp

/-! ### A bypass write -/

/-- The channel of a failed bypass write stops at once and gives up the beat in progress (R100). -/
theorem State.bypassFailed_gaveUp (u : State) (c : Chan) (beat : Nat) (lanes : List (Nat × Nat)) (reason : FailReason) :
    u.GaveUp (u.bypassFailed c beat lanes reason) c fun q => u.granted c && q.ofBeat c :=
  (u.discardBeat_gaveUp c).of_same rfl rfl rfl

theorem State.bypassFailed_ch (u : State) (c : Chan) (beat : Nat) (lanes : List (Nat × Nat)) (reason : FailReason) :
    (u.bypassFailed c beat lanes reason).ch c = { u.ch c with current := (u.ch c).current.map fun x =>
      { x with fails := x.fails ++ [{ beat := beat, lanes := lanes, reason := reason }] } } := by
  have hc : (u.discardBeat c).ch c = u.ch c := by rw [State.discardBeat_rest]; rfl
  rw [State.bypassFailed, State.ch_modCh_same, hc]

theorem State.bypassFailed_ch_ne {d : Chan} (hd : d ≠ c) (beat : Nat) (lanes : List (Nat × Nat)) (reason : FailReason) :
    (u.bypassFailed c beat lanes reason).ch d = u.ch d := by
  have hc : (u.discardBeat c).ch d = u.ch d := by rw [State.discardBeat_rest]; rfl
  rw [State.bypassFailed, State.ch_modCh_ne _ hd, hc]

theorem State.bypassFailed_queue (u : State) (c : Chan) (beat : Nat) (lanes : List (Nat × Nat)) (reason : FailReason) :
    (u.bypassFailed c beat lanes reason).cache.queue = u.cache.queue := by
  have hq : (u.bypassFailed c beat lanes reason).cache.queue = (u.discardBeat c).cache.queue := rfl
  rw [hq, (u.discardBeat_onlyLines c).rest]

theorem State.bypassFailed_rest (u : State) (c : Chan) (beat : Nat) (lanes : List (Nat × Nat)) (reason : FailReason) :
    let v := u.bypassFailed c beat lanes reason
    v = { u with chans := v.chans, beat := v.beat, link := v.link, cache := v.cache } := by
  have h : u.bypassFailed c beat lanes reason =
      { u.discardBeat c with chans := (u.bypassFailed c beat lanes reason).chans } := rfl
  dsimp only
  rw [h, State.discardBeat_rest]

/-! ### An event record write -/

/-- A change of every channel alone: each channel becomes `f` of it. -/
theorem State.forChans_modCh_ch (u : State) (f : Channel → Channel) (d : Chan) :
    (u.forChans fun c u => u.modCh c f).ch d = f (u.ch d) := by
  simp only [State.forChans, allChans, List.foldl_cons, List.foldl_nil, State.ch_modCh]
  fin_cases d <;> rfl

/-- The device enters Fatal, and no channel is owed progress (R133, R165). -/
theorem State.enterFatal_eq (u : State) : u.enterFatal =
    { u with engine := { u.engine with fatal := true }, chans := u.enterFatal.chans } := rfl

theorem State.enterFatal_ch (u : State) (d : Chan) : u.enterFatal.ch d = { u.ch d with progressOwed := false } :=
  State.forChans_modCh_ch ({ u with engine := { u.engine with fatal := true } }) _ d

/-! ### A write-back -/

/-- A write-back that failed is lost: its line, its entry, and the counter (R143). -/
theorem State.lostWriteBack_eq (u : State) (r : Req) : u.lostWriteBack r = { u with
    cache := { (u.cache.modLine (r.address / 64) fun l => { l with state := .invalid, bytes := 0 }) with
      evict := u.cache.evict.filter fun x => x.line != r.address / 64
      lostWriteBacks := min (u.cache.lostWriteBacks + 1) 65535 }
    link := { u.link with waiting := u.link.waiting.map fun q =>
      if q.kind ∈ [ReqKind.fetchShared, .fetchOwned, .readDirect, .writePartial] ∧ q.address / 64 = r.address / 64 then
        { q with waited := true }
      else q }
    place := u.place ++ [.post (Event.simple .deviceError none 1 (BitVec.ofNat 64 r.address))] } := by
  have hdrop : CacheLine.drop = fun l => { l with state := .invalid, bytes := 0 } := rfl
  rw [State.lostWriteBack, hdrop, State.modCache, State.leaveEviction_eq, Cache.modLine_rest]
  rfl

theorem State.failed_writeLine (hk : r.kind = .writeLine) (reason : FailReason) :
    u.failed r reason = u.lostWriteBack r := by
  simp only [State.failed, hk]

/-! ### The rows -/

/-- The rows of a failed masked write all act by the request that the tag holds (log 3). -/
theorem exec_writeFail_row {i : Instr}
    (hi : i ∈ ([.bypassWriteFail t g reason, .completionRecordFail t g reason, .csbWriteFail t g reason,
      .eventRecordFail t g reason] : List Instr)) : exec i s = .next (s.arrive t g (.fail reason)) := by
  simp only [List.mem_cons, List.not_mem_nil, or_false] at hi
  obtain rfl | rfl | rfl | rfl := hi <;> rfl

/-- Settles O52. -/
theorem writeFails : Obligations.WriteFails := by
  intro s t g r reason h u n read
  have hrow {i : Instr} (hk : r.kind = .writePartial)
      (hi : i ∈ ([.bypassWriteFail t g reason, .completionRecordFail t g reason, .csbWriteFail t g reason,
        .eventRecordFail t g reason] : List Instr)) : exec i s = .next (u.writeFailed r reason).settleClose := by
    rw [exec_writeFail_row hi, State.arrive_failed h, State.failed_writePartial hk]
  refine ⟨fun hk ho i hi => ?_, fun c beat lanes hk hc hp ho => ?_, fun c hk hc ho he => ?_, fun live hk _ hp ho => ?_,
    fun hk => ?_⟩
  · rw [hrow hk hi, State.writeFailed_orphan ho]
  · have hbeat : (fun q : Req => s.granted c && q.owner == .channel c && !q.orphan && read q) =
        fun q => u.granted c && q.ofBeat c := by
      funext q
      rw [Bool.and_assoc, Bool.and_assoc, ← Bool.and_assoc (q.owner == .channel c)]
      rfl
    refine ⟨u.bypassFailed c beat lanes reason, ?_, u.bypassFailed_ch .., fun d hd => State.bypassFailed_ch_ne hd ..,
      hbeat ▸ u.bypassFailed_gaveUp .., u.bypassFailed_queue .., u.bypassFailed_rest ..⟩
    rw [hrow hk (by simp), State.writeFailed_bypass ho hc hp]
  · intro error
    have herror {i : Instr} {cause : ErrCause} {code : BitVec 16} (hcode : BitVec.ofNat 16 cause.code = code)
        (hi : exec i s =
          .next (u.enterError c cause .channelError (BitVec.ofNat 64 r.firstByte)).settleClose) :
        error i cause code := by
      refine ⟨_, hi, State.enterError_ch (u := u) he .., fun d hd => State.enterError_ch_ne (u := u) he _ _ _ hd,
        State.enterError_gaveUp (u := u) he .., State.enterError_queue (u := u) he .., ?_⟩
      rw [← hcode]
      exact State.enterError_rest (u := u) he ..
    refine ⟨fun e hp => herror rfl ?_, fun hp => herror rfl ?_⟩
    · rw [hrow hk (by simp), State.writeFailed_record ho hc hp]
    · rw [hrow hk (by simp), State.writeFailed_block ho hc hp]
  · refine ⟨u.enterFatal, ?_, u.enterFatal_ch, u.enterFatal_eq⟩
    rw [hrow hk (by simp), State.writeFailed_event ho hp]
  · rw [exec_writelineFail, execWritelineFail, State.arrive_failed h, State.failed_writeLine hk, State.lostWriteBack_eq]
    rfl

end Sys2Proof.Machine
end

section
/-! PROOF. Read after write of the bytes of a block (R3). -/
namespace Sys2Proof.Machine
variable {w : Nat} (x : BitVec w)

theorem testBit_bytesAt (off n i : Nat) :
    (bytesAt x off n).testBit i = (decide (i < 8 * n) && x.getLsbD (8 * off + i)) := by
  rw [bytesAt, Nat.testBit_mod_two_pow, BitVec.testBit_toNat, BitVec.getLsbD_ushiftRight]

theorem getLsbD_putBytes (off n v i : Nat) : (putBytes x off n v).getLsbD i =
    if 8 * off ≤ i ∧ i < 8 * (off + n) then decide (i < w) && v.testBit (i - 8 * off) else x.getLsbD i := by
  simp only [putBytes, BitVec.getLsbD_or, BitVec.getLsbD_and, BitVec.getLsbD_not, BitVec.getLsbD_shiftLeft,
    BitVec.getLsbD_ofNat, Nat.testBit_two_pow_sub_one, Nat.testBit_mod_two_pow]
  by_cases hw : i < w
  · have hw' : i - 8 * off < w := by omega
    by_cases hlow : i < 8 * off
    · have hout : ¬ (8 * off ≤ i ∧ i < 8 * (off + n)) := by omega
      simp [hw, hlow, hout]
    · by_cases hin : i - 8 * off < 8 * n
      · have hin' : 8 * off ≤ i ∧ i < 8 * (off + n) := by omega
        simp [hw, hw', hlow, hin, hin']
      · have hout : ¬ (8 * off ≤ i ∧ i < 8 * (off + n)) := by omega
        simp [hw, hlow, hin, hout]
  · simp [hw, BitVec.getLsbD_of_ge x i (by omega)]

/-- The bytes that were written. -/
theorem bytesAt_putBytes_same {off n v : Nat} (hw : 8 * (off + n) ≤ w) (hv : v < 2 ^ (8 * n)) :
    bytesAt (putBytes x off n v) off n = v := by
  refine Nat.eq_of_testBit_eq fun i => ?_
  rw [testBit_bytesAt, getLsbD_putBytes]
  by_cases hi : i < 8 * n
  · rw [if_pos (by omega), Nat.add_sub_cancel_left, decide_eq_true hi, decide_eq_true (by omega), Bool.true_and,
      Bool.true_and]
  · rw [decide_eq_false hi, Bool.false_and]
    exact (Nat.testBit_lt_two_pow (hv.trans_le (Nat.pow_le_pow_right (by decide) (by omega)))).symm

/-- Bytes beside those that were written. -/
theorem bytesAt_putBytes_ne {off n v off' n' : Nat} (h : off' + n' ≤ off ∨ off + n ≤ off') :
    bytesAt (putBytes x off n v) off' n' = bytesAt x off' n' := by
  refine Nat.eq_of_testBit_eq fun i => ?_
  rw [testBit_bytesAt, testBit_bytesAt, getLsbD_putBytes]
  by_cases hi : i < 8 * n'
  · rw [if_neg (by omega)]
  · rw [decide_eq_false hi, Bool.false_and, Bool.false_and]

theorem bytesAt_zero (off n : Nat) : bytesAt (0 : BitVec w) off n = 0 := by
  simp [bytesAt]

end Sys2Proof.Machine
end

section
/-! PROOF. What a save writes into the context save block, and what a restore reads back from it (R111, R112). -/
namespace Sys2Proof.Machine

/-! ### The link stack -/

theorem bytesAt_putLink_ne (b : CsbImage) {i off n : Nat} (e : LinkEntry)
    (h : off + n ≤ 64 + 24 * i ∨ 64 + 24 * (i + 1) ≤ off) : bytesAt (putLink b i e) off n = bytesAt b off n := by
  rw [putLink, bytesAt_putBytes_ne _ (by omega), bytesAt_putBytes_ne _ (by omega), bytesAt_putBytes_ne _ (by omega)]

theorem bytesAt_putLinks_ne {off n : Nat} : ∀ {es : List LinkEntry} {i : Nat} (b : CsbImage),
    off + n ≤ 64 + 24 * i ∨ 64 + 24 * (i + es.length) ≤ off → bytesAt (putLinks b i es) off n = bytesAt b off n
  | [], _, _, _ => rfl
  | e :: es, i, b, h => by
    rw [List.length_cons] at h
    rw [putLinks, bytesAt_putLinks_ne _ (by omega), bytesAt_putLink_ne _ _ (by omega)]

/-- An entry is read from its own eleven bytes. -/
theorem csbLink_congr {b b' : CsbImage} {i : Nat}
    (h : ∀ off n, 64 + 24 * i ≤ off → off + n ≤ 64 + 24 * i + 11 → bytesAt b off n = bytesAt b' off n) :
    csbLink b i = csbLink b' i := by
  simp only [csbLink, h (64 + 24 * i) 8 (by omega) (by omega), h (64 + 24 * i + 8) 2 (by omega) (by omega),
    h (64 + 24 * i + 10) 1 (by omega) (by omega)]

theorem LinkKind.code_lt (k : LinkKind) : k.code < 2 ^ (8 * 1) := by
  cases k <;> decide

/-- An entry reads back as it was written. -/
theorem csbLink_putLink (b : CsbImage) {i : Nat} (hi : i < 4) {e : LinkEntry} (he : e.held < 2 ^ 16) :
    csbLink (putLink b i e) i = some e := by
  have hkind : bytesAt (putLink b i e) (64 + 24 * i + 10) 1 = e.kind.code :=
    bytesAt_putBytes_same _ (by omega) e.kind.code_lt
  have hheld : bytesAt (putLink b i e) (64 + 24 * i + 8) 2 = e.held := by
    rw [putLink, bytesAt_putBytes_ne _ (by omega), bytesAt_putBytes_same _ (by omega) he]
  have hnext : bytesAt (putLink b i e) (64 + 24 * i) 8 = e.next.toNat := by
    rw [putLink, bytesAt_putBytes_ne _ (by omega), bytesAt_putBytes_ne _ (by omega),
      bytesAt_putBytes_same _ (by omega) e.next.isLt]
  simp only [csbLink, hkind, hheld, hnext, BitVec.ofNat_toNat, BitVec.setWidth_eq]
  obtain ⟨kind, next, held⟩ := e
  cases kind <;> rfl

/-- The entries read back as they were written. -/
theorem csbLink_putLinks : ∀ {es : List LinkEntry} {i : Nat} (b : CsbImage), i + es.length ≤ 4 →
    (∀ e ∈ es, e.held < 2 ^ 16) → (List.range' i es.length).filterMap (csbLink (putLinks b i es)) = es
  | [], _, _, _, _ => rfl
  | e :: es, i, b, hlen, hheld => by
    rw [List.length_cons] at hlen ⊢
    have hfirst : csbLink (putLinks b i (e :: es)) i = some e := by
      rw [putLinks, csbLink_congr fun off n _ _ => bytesAt_putLinks_ne _ (by omega),
        csbLink_putLink b (by omega) (hheld e List.mem_cons_self)]
    rw [List.range'_succ, List.filterMap_cons_some hfirst, putLinks,
      csbLink_putLinks _ (by omega) fun x hx => hheld x (List.mem_cons_of_mem e hx)]

/-! ### The parts of a block -/

/-- The code of the origin of a save (R111). -/
def Origin.code : Origin → Nat
  | .explicit => 0
  | .automatic => 1

/-- What a block holds whatever the link stack and the current descriptor are (R111). -/
def csbHeader (h : Channel) (saved : ChState) (origin : Origin) : CsbImage :=
  let b := putBytes (0 : CsbImage) 0 4 Config.csbSignature.toNat
  let b := putBytes b 4 4 1
  let b := putBytes b 8 1 (savedStateCode saved)
  let b := putBytes b 10 1 origin.code
  let b := putBytes b 11 1 (h.current.isSome.toNat + 2 * h.listPos.isSome.toNat)
  let b := putBytes b 12 2 h.normal.consumer
  let b := putBytes b 14 2 h.normal.fetch
  let b := putBytes b 32 8 ((h.listPos.map (·.toNat)).getD 0)
  let b := putBytes b 57 1 h.links.length
  putBytes b 60 4 h.acw.toNat

/-- The ring, the location and the image of a descriptor at their places in the block (R111). -/
def putCurrent (b : CsbImage) (x : Current) : CsbImage :=
  putBytes (putBytes (putBytes b 16 8 x.location.toNat) 24 1 x.ring.code) 192 128 x.image.toNat

/-- The counts and the flags of a job at their places in the block (R111). -/
def putJob (b : CsbImage) (x : Current) : CsbImage :=
  putBytes (putBytes (putBytes (putBytes (putBytes b 40 4 x.beat) 44 4 x.committed) 48 4 x.skipped) 52 4 x.faults) 56 1
    x.flags.toNat

/-- The current descriptor at its place in the block; only an OPERATION has counts and flags (R111). -/
def putDescriptor (b : CsbImage) : Option Current → CsbImage
  | none => b
  | some x => if x.isOperation then putJob (putCurrent b x) x else putCurrent b x

/-- A block is its header, the link stack and the current descriptor. -/
theorem csbEncode_eq (h : Channel) (saved : ChState) (origin : Origin) : csbEncode h saved origin =
    putDescriptor (putLinks (csbHeader h saved origin) 0 h.links.reverse) h.current := rfl

theorem bytesAt_putCurrent_ne (b : CsbImage) (x : Current) {off n : Nat}
    (h : off + n ≤ 16 ∨ (25 ≤ off ∧ off + n ≤ 192)) : bytesAt (putCurrent b x) off n = bytesAt b off n := by
  rw [putCurrent, bytesAt_putBytes_ne _ (by omega), bytesAt_putBytes_ne _ (by omega), bytesAt_putBytes_ne _ (by omega)]

theorem bytesAt_putJob_ne (b : CsbImage) (x : Current) {off n : Nat} (h : off + n ≤ 40 ∨ 57 ≤ off) :
    bytesAt (putJob b x) off n = bytesAt b off n := by
  rw [putJob, bytesAt_putBytes_ne _ (by omega), bytesAt_putBytes_ne _ (by omega), bytesAt_putBytes_ne _ (by omega),
    bytesAt_putBytes_ne _ (by omega), bytesAt_putBytes_ne _ (by omega)]

theorem bytesAt_putDescriptor_ne (b : CsbImage) (o : Option Current) {off n : Nat}
    (h : off + n ≤ 16 ∨ (25 ≤ off ∧ off + n ≤ 40) ∨ (57 ≤ off ∧ off + n ≤ 192)) :
    bytesAt (putDescriptor b o) off n = bytesAt b off n := by
  cases o with
  | none => rfl
  | some x =>
    rw [putDescriptor]
    split
    · rw [bytesAt_putJob_ne _ _ (by omega), bytesAt_putCurrent_ne _ _ (by omega)]
    · rw [bytesAt_putCurrent_ne _ _ (by omega)]

/-! ### The fields of the header -/

section Header
variable {h : Channel} {saved : ChState} {origin : Origin}

/-- The bytes of a block that belong neither to the link stack nor to the current descriptor are the header's. -/
theorem bytesAt_csbEncode {off n : Nat} (ho : off + n ≤ 16 ∨ (25 ≤ off ∧ off + n ≤ 40) ∨ (57 ≤ off ∧ off + n ≤ 64)) :
    bytesAt (csbEncode h saved origin) off n = bytesAt (csbHeader h saved origin) off n := by
  rw [csbEncode_eq, bytesAt_putDescriptor_ne _ _ (by omega), bytesAt_putLinks_ne _ (by omega)]

theorem csbEncode_signature : bytesAt (csbEncode h saved origin) 0 4 = Config.csbSignature.toNat := by
  rw [bytesAt_csbEncode (by omega)]
  simp (disch := omega) only [csbHeader, bytesAt_putBytes_ne]
  exact bytesAt_putBytes_same _ (by omega) Config.csbSignature.isLt

theorem csbEncode_version : bytesAt (csbEncode h saved origin) 4 4 = 1 := by
  rw [bytesAt_csbEncode (by omega)]
  simp (disch := omega) only [csbHeader, bytesAt_putBytes_ne]
  exact bytesAt_putBytes_same _ (by omega) (by decide)

theorem csbRestart_csbEncode : csbRestart (csbEncode h saved origin) = some .continue_ := by
  have hb : bytesAt (csbEncode h saved origin) 9 1 = 0 := by
    rw [bytesAt_csbEncode (by omega)]
    simp (disch := omega) only [csbHeader, bytesAt_putBytes_ne]
    exact bytesAt_zero ..
  rw [csbRestart, hb]
  rfl

theorem csbState_csbEncode (hs : saved = .idle ∨ saved = .running ∨ saved = .waiting) :
    csbState (csbEncode h saved origin) = some saved := by
  have hb : bytesAt (csbEncode h saved origin) 8 1 = savedStateCode saved := by
    rw [bytesAt_csbEncode (by omega)]
    simp (disch := omega) only [csbHeader, bytesAt_putBytes_ne]
    exact bytesAt_putBytes_same _ (by omega) (by obtain rfl | rfl | rfl := hs <;> decide)
  rw [csbState, hb]
  obtain rfl | rfl | rfl := hs <;> rfl

theorem csbPositions_csbEncode (hc : h.normal.consumer < 2 ^ 16) (hf : h.normal.fetch < 2 ^ 16) :
    csbPositions h (csbEncode h saved origin) = true := by
  have hconsumer : bytesAt (csbEncode h saved origin) 12 2 = h.normal.consumer := by
    rw [bytesAt_csbEncode (by omega)]
    simp (disch := omega) only [csbHeader, bytesAt_putBytes_ne]
    exact bytesAt_putBytes_same _ (by omega) hc
  have hfetch : bytesAt (csbEncode h saved origin) 14 2 = h.normal.fetch := by
    rw [bytesAt_csbEncode (by omega)]
    simp (disch := omega) only [csbHeader, bytesAt_putBytes_ne]
    exact bytesAt_putBytes_same _ (by omega) hf
  rw [csbPositions, hconsumer, hfetch, beq_self_eq_true, beq_self_eq_true, Bool.and_self]

theorem csbAcw_csbEncode : csbAcw (csbEncode h saved origin) = h.acw := by
  have hb : bytesAt (csbEncode h saved origin) 60 4 = h.acw.toNat := by
    rw [bytesAt_csbEncode (by omega), csbHeader]
    exact bytesAt_putBytes_same _ (by omega) h.acw.isLt
  rw [csbAcw, hb, BitVec.ofNat_toNat, BitVec.setWidth_eq]

/-- The presence byte says whether a current descriptor and a list position are held (R111). -/
theorem csbEncode_presence : bytesAt (csbEncode h saved origin) 11 1 =
    h.current.isSome.toNat + 2 * h.listPos.isSome.toNat := by
  have hlt (a b : Bool) : a.toNat + 2 * b.toNat < 2 ^ (8 * 1) := by
    cases a <;> cases b <;> decide
  rw [bytesAt_csbEncode (by omega)]
  simp (disch := omega) only [csbHeader, bytesAt_putBytes_ne]
  exact bytesAt_putBytes_same _ (by omega) (hlt ..)

theorem csbHasCurrent_csbEncode : csbHasCurrent (csbEncode h saved origin) = h.current.isSome := by
  rw [csbHasCurrent, csbEncode_presence]
  cases h.current.isSome <;> cases h.listPos.isSome <;> rfl

theorem csbHasList_csbEncode : csbHasList (csbEncode h saved origin) = h.listPos.isSome := by
  rw [csbHasList, csbEncode_presence]
  cases h.current.isSome <;> cases h.listPos.isSome <;> rfl

theorem csbListPos_csbEncode :
    (if csbHasList (csbEncode h saved origin) then some (csbListPos (csbEncode h saved origin)) else none) =
      h.listPos := by
  rw [csbHasList_csbEncode]
  cases hl : h.listPos with
  | none => rfl
  | some a =>
    have hb : bytesAt (csbEncode h saved origin) 32 8 = a.toNat := by
      rw [bytesAt_csbEncode (by omega)]
      simp (disch := omega) only [csbHeader, bytesAt_putBytes_ne]
      rw [bytesAt_putBytes_same _ (by omega) (by rw [hl]; exact a.isLt), hl]
      rfl
    rw [csbListPos, hb, BitVec.ofNat_toNat, BitVec.setWidth_eq]
    rfl

theorem csbDepth_csbEncode (hl : h.links.length ≤ 4) : csbDepth (csbEncode h saved origin) = h.links.length := by
  rw [csbDepth, bytesAt_csbEncode (by omega)]
  simp (disch := omega) only [csbHeader, bytesAt_putBytes_ne]
  exact bytesAt_putBytes_same _ (by omega) (by omega)

/-- The link stack reads back, bottom first (R111). -/
theorem csbLinks_csbEncode (hl : h.links.length ≤ 4) (hheld : ∀ e ∈ h.links, e.held < 2 ^ 16) :
    csbLinks (csbEncode h saved origin) = h.links.reverse := by
  have hlink (i : Nat) (hi : i < 4) : csbLink (csbEncode h saved origin) i =
      csbLink (putLinks (csbHeader h saved origin) 0 h.links.reverse) i :=
    csbLink_congr fun off n _ _ => by rw [csbEncode_eq, bytesAt_putDescriptor_ne _ _ (by omega)]
  rw [csbLinks, csbDepth_csbEncode hl, Nat.min_eq_left hl, List.range_eq_range', ← List.length_reverse,
    List.filterMap_congr fun i hi => hlink i (by simp only [List.mem_range'_1, List.length_reverse] at hi; omega)]
  exact csbLink_putLinks _ (by rw [List.length_reverse]; omega) fun e he => hheld e (List.mem_reverse.1 he)

end Header

/-! ### The current descriptor -/

theorem bytesAt_putDescriptor_some (b : CsbImage) (x : Current) {off n : Nat} (h : off + n ≤ 40 ∨ 57 ≤ off) :
    bytesAt (putDescriptor b (some x)) off n = bytesAt (putCurrent b x) off n := by
  rw [putDescriptor]
  split
  · exact bytesAt_putJob_ne _ _ h
  · rfl

section Descriptor
variable {h : Channel} {saved : ChState} {origin : Origin} {x : Current} (hx : h.current = some x)
include hx

theorem csbRing_csbEncode (hr : x.ring = .normal ∨ x.ring = .list) :
    csbRing (csbEncode h saved origin) = some x.ring := by
  have hb : bytesAt (csbEncode h saved origin) 24 1 = x.ring.code := by
    rw [csbEncode_eq, hx, bytesAt_putDescriptor_some _ _ (by omega), putCurrent, bytesAt_putBytes_ne _ (by omega),
      bytesAt_putBytes_same _ (by omega) (by obtain hr | hr := hr <;> rw [hr] <;> decide)]
  rw [csbRing, hb]
  obtain hr | hr := hr <;> rw [hr] <;> rfl

theorem csbEncode_location : bytesAt (csbEncode h saved origin) 16 8 = x.location.toNat := by
  rw [csbEncode_eq, hx, bytesAt_putDescriptor_some _ _ (by omega), putCurrent, bytesAt_putBytes_ne _ (by omega),
    bytesAt_putBytes_ne _ (by omega), bytesAt_putBytes_same _ (by omega) x.location.isLt]

theorem csbImageOf_csbEncode : csbImageOf (csbEncode h saved origin) = x.image := by
  have hb : bytesAt (csbEncode h saved origin) 192 128 = x.image.toNat := by
    rw [csbEncode_eq, hx, bytesAt_putDescriptor_some _ _ (by omega), putCurrent,
      bytesAt_putBytes_same _ (by omega) (BitVec.toNat_lt_twoPow_of_le (by decide))]
  rw [csbImageOf, hb, BitVec.ofNat_toNat, BitVec.setWidth_eq]

/-- The counts and the flags of an OPERATION are written as they stand (R112). -/
theorem csbEncode_job (ho : x.isOperation = true) (hb : x.beat < 2 ^ 32) (hc : x.committed < 2 ^ 32)
    (hs : x.skipped < 2 ^ 32) (hf : x.faults < 2 ^ 32) :
    let b := csbEncode h saved origin
    bytesAt b 40 4 = x.beat ∧ bytesAt b 44 4 = x.committed ∧ bytesAt b 48 4 = x.skipped ∧ bytesAt b 52 4 = x.faults ∧
      bytesAt b 56 1 = x.flags.toNat := by
  rw [csbEncode_eq, hx, putDescriptor, if_pos ho]
  refine ⟨?_, ?_, ?_, ?_, bytesAt_putBytes_same _ (by omega) (BitVec.toNat_lt_twoPow_of_le (by decide))⟩
  all_goals simp (disch := omega) only [putJob, bytesAt_putBytes_ne]
  · exact bytesAt_putBytes_same _ (by omega) hb
  · exact bytesAt_putBytes_same _ (by omega) hc
  · exact bytesAt_putBytes_same _ (by omega) hs
  · exact bytesAt_putBytes_same _ (by omega) hf

/-- Every other descriptor has no counts and no flags in its block (R112). -/
theorem csbEncode_noJob (ho : x.isOperation = false) {off n : Nat} (hlo : 40 ≤ off) (hhi : off + n ≤ 57) :
    bytesAt (csbEncode h saved origin) off n = 0 := by
  rw [csbEncode_eq, hx, putDescriptor, if_neg (by rw [ho]; exact Bool.false_ne_true),
    bytesAt_putCurrent_ne _ _ (by omega), bytesAt_putLinks_ne _ (by omega)]
  simp (disch := omega) only [csbHeader, bytesAt_putBytes_ne]
  exact bytesAt_zero ..

end Descriptor

/-- The current descriptor reads back, with its progress where it is a job (R111, R112). -/
theorem csbCurrent_csbEncode {h : Channel} {saved : ChState} {origin : Origin}
    (hcur : ∀ x, h.current = some x → (x.ring = .normal ∨ x.ring = .list) ∧
      x.beat < 2 ^ 32 ∧ x.committed < 2 ^ 32 ∧ x.skipped < 2 ^ 32 ∧ x.faults < 2 ^ 32) :
    csbCurrent (csbEncode h saved origin) = h.current.map fun x =>
      if x.isOperation then { x with fails := [] }
      else { x with beat := 0, committed := 0, skipped := 0, faults := 0, flags := 0, fails := [] } := by
  rw [csbCurrent, csbHasCurrent_csbEncode]
  cases hx : h.current with
  | none => rfl
  | some x =>
    obtain ⟨hring, hbeat, hcommitted, hskipped, hfaults⟩ := hcur x hx
    simp only [Option.isSome_some, if_true, Option.map_some, csbImageOf_csbEncode hx, csbRing_csbEncode hx hring,
      Option.getD_some, csbEncode_location hx, BitVec.ofNat_toNat, BitVec.setWidth_eq]
    cases ho : x.isOperation with
    | true =>
      obtain ⟨beat, committed, skipped, faults, flags⟩ :=
        csbEncode_job (saved := saved) (origin := origin) hx ho hbeat hcommitted hskipped hfaults
      simp only [beat, committed, skipped, faults, flags, if_true, BitVec.ofNat_toNat, BitVec.setWidth_eq]
    | false =>
      simp (disch := omega) only [csbEncode_noJob hx ho, Bool.false_eq_true, if_false, BitVec.ofNat_eq_ofNat]

end Sys2Proof.Machine
end

section
/-! PROOF. The end of a restore (R109, R116, R118 to R120), and what a save records and a restore takes up again
(R111, R112). -/
namespace Sys2Proof.Machine
variable {s : State} {c : Chan} {h : Channel} {b : CsbImage}

/-! ### What the channel takes up -/

/-- A block names one of the three states in which a context can be saved (Table 6-1). -/
theorem csbState_cases {state : ChState} (hs : csbState b = some state) :
    state = .idle ∨ state = .running ∨ state = .waiting := by
  unfold csbState at hs
  split at hs
  · exact .inl (Option.some.inj hs).symm
  · exact .inr (.inl (Option.some.inj hs).symm)
  · exact .inr (.inr (Option.some.inj hs).symm)
  · cases hs

/-- Of the three states, Running and Waiting are those other than Idle. -/
theorem runs_or_waits_iff {state : ChState} (hs : state = .idle ∨ state = .running ∨ state = .waiting) :
    (state == .running || state == .waiting) = true ↔ state ≠ .idle := by
  obtain rfl | rfl | rfl := hs <;> decide

/-- The channel takes up the context of a block saved in `state`, before the restart choice (R119). -/
theorem Channel.takeContext_eq {state : ChState} (hs : csbState b = some state) : h.takeContext b = { h with
    state := state, restore := none, links := (csbLinks b).reverse, acw := csbAcw b, current := csbCurrent b
    listPos := if csbHasList b then some (csbListPos b) else none
    phase := ((csbCurrent b).map fun x => x.restoredPhase state).getD .choose } := by
  simp only [Channel.takeContext, hs, Option.getD_some]

/-- A descriptor that is to be executed, judged or ended comes before a claimed park (R119; log 36). -/
theorem Channel.continued_atOnce (hp : h.phase = .ready ∨ h.phase = .fence ∨ h.phase = .ending) : h.continued =
    if h.state == .running || h.state == .waiting then { h with owedAttempt := .restored } else h := by
  obtain hp | hp | hp := hp <;> simp only [Channel.continued, hp, Bool.true_and]

/-- In every other phase Continue changes nothing. -/
theorem Channel.continued_later (hp : ¬ (h.phase = .ready ∨ h.phase = .fence ∨ h.phase = .ending)) :
    h.continued = h := by
  rw [not_or, not_or] at hp
  obtain ⟨hready, hfence, hending⟩ := hp
  cases hp : h.phase with
  | ready => exact absurd hp hready
  | fence => exact absurd hp hfence
  | ending => exact absurd hp hending
  | choose | taking | fetching | job | flushing | completing | drained =>
    simp only [Channel.continued, hp, Bool.false_and, Bool.false_eq_true, if_false]

/-- What Continue gives a restored descriptor at once (R119; log 36). -/
theorem Channel.continued_eq (hs : h.state = .idle ∨ h.state = .running ∨ h.state = .waiting) : h.continued = { h with
    owedAttempt := if h.state ≠ .idle ∧ (h.phase = .ready ∨ h.phase = .fence ∨ h.phase = .ending) then .restored
      else h.owedAttempt } := by
  by_cases hp : h.phase = .ready ∨ h.phase = .fence ∨ h.phase = .ending
  · simp only [Channel.continued_atOnce hp, runs_or_waits_iff hs, hp, and_true]
    split <;> rfl
  · simp only [Channel.continued_later hp, hp, and_false, if_false]

/-- The park that is claimed as a restore ends (R116, R119, R120; log 52). -/
theorem Channel.claimAfterRestore_eq (hs : h.state = .idle ∨ h.state = .running ∨ h.state = .waiting) :
    h.claimAfterRestore = { h with
      claim := if h.pendingPark then some .explicit
        else if h.state ≠ .idle ∧ h.expedite.producer ≠ h.expedite.fetch ∧ h.csbAddress ≠ 0 then some .automatic
        else h.claim } := by
  have hrun := runs_or_waits_iff hs
  unfold Channel.claimAfterRestore
  simp only [Bool.and_eq_true, hrun, Channel.expediteLatched, Ring.untaken, bne_iff_ne, and_assoc]
  split
  · rfl
  · split <;> rfl

/-- The place from which a restored channel goes on (R119; log 53). -/
theorem Current.restoredPhase_eq (x : Current) (state : ChState) : x.restoredPhase state =
    if state = .idle then .choose
    else if state = .waiting then .fence
    else if descKind x.image = some .operation ∧ descLength x.image ≠ 0 then
      (if x.beat = descBeats x.image then .ending else .job)
    else .ready := by
  simp only [Current.restoredPhase, Current.isOperation, Bool.and_eq_true, beq_iff_eq, bne_iff_ne]

/-! ### The end of a restore -/

/-- A block that fails a check of R118 ends the restore in Error (R109). -/
theorem State.restoreStep_invalid {x : Restore} {cause : ErrCause} (hx : h.restore = some x) (hm : x.missing = [])
    (hc : csbCheck h x.image = some cause) :
    s.restoreStep c h = some (s.enterError c cause .unparkFailed x.address) := by
  simp only [State.restoreStep, hx, hm, hc, List.isEmpty_nil, Bool.not_true, Bool.false_eq_true, if_false]

/-- A valid block with restart choice Continue is taken up (R119). -/
theorem State.restoreStep_continue {x : Restore} (hx : h.restore = some x) (hm : x.missing = [])
    (hc : csbCheck h x.image = none) (hr : csbRestart x.image = some .continue_) :
    s.restoreStep c h = some { s.setCh c ((s.ch c).takeContext x.image).continued.claimAfterRestore with
      place := if x.byUnpark then s.place ++ [.post (Event.simple .unparked (some c) 0 x.address)] else s.place } := by
  simp only [State.restoreStep, hx, hm, hc, hr, List.isEmpty_nil, Bool.not_true, Bool.false_eq_true, if_false,
    Option.getD_some, State.applyRestart]
  cases x.byUnpark with
  | true =>
    rw [if_pos rfl, State.post_modCh, State.post_modCh, State.modCh_modCh, State.modCh, State.ch_setCh_same,
      State.setCh_setCh]
    rfl
  | false =>
    rw [if_neg Bool.false_ne_true, State.modCh_modCh, State.modCh, State.ch_setCh_same, State.setCh_setCh]
    rfl

/-- Settles O60. -/
theorem savedContextReadsBack : Obligations.SavedContextReadsBack := by
  refine ⟨fun s c x hx hm hst => ?_, fun h origin hs hl hheld hconsumer hfetch hcur => ?_⟩
  · intro h b event
    have he : (s.ch c).state ≠ .error := by rw [hst]; simp
    refine ⟨fun cause hc => ?_, fun state hc hr hs => ?_⟩
    · exact ⟨_, State.restoreStep_invalid hx hm hc, State.enterError_ch he ..,
        fun d hd => State.enterError_ch_ne he _ _ _ hd, State.enterError_gaveUp he .., State.enterError_queue he ..,
        State.enterError_rest he ..⟩
    · intro phase
      have hcases := csbState_cases hs
      have hphase : ((csbCurrent b).map fun x => x.restoredPhase state).getD .choose = phase := by
        unfold phase
        cases csbCurrent b with
        | none => rfl
        | some y => exact y.restoredPhase_eq state
      rw [State.restoreStep_continue hx hm hc hr, Channel.takeContext_eq hs, hphase,
        Channel.continued_eq (by exact hcases), Channel.claimAfterRestore_eq (by exact hcases)]
      rfl
  · intro b
    refine ⟨csbEncode_signature, csbEncode_version, csbState_csbEncode hs, csbRestart_csbEncode,
      csbPositions_csbEncode hconsumer hfetch, csbDepth_csbEncode hl, ?_, csbListPos_csbEncode, csbAcw_csbEncode, ?_⟩
    · rw [csbLinks_csbEncode hl hheld, List.reverse_reverse]
    · rw [csbCurrent_csbEncode hcur]
      simp only [Current.isOperation, beq_iff_eq]

end Sys2Proof.Machine
end

section
/-! PROOF. QUIESCE_RELEASE (R120, R163 to R165), and the words of Device Control that it and SOFT_INIT write (R160, R169). -/
namespace Sys2Proof.Machine

/-! ### Words of Device Control -/

/-- A word that asks for a Soft Init alone is accepted in every power state but Dormant and Waking (R160). -/
theorem State.deviceControl_softInit {s : State} {v : Word32} (hdormant : dcDormant v = false) (hwake : dcWake v = false)
    (hinit : dcSoftInit v = true) (hreset : dcDeviceReset v = false) (ha : s.asleep = false) :
    s.deviceControl v = s.softInit := by
  have haccepted : s.controlAccepted v = true := by
    simpa [State.controlAccepted, hdormant, hwake, hinit, State.asleep] using ha
  simp only [State.deviceControl, State.controlEffect, hreset, haccepted, hinit, Bool.false_eq_true, if_false, if_true]

/-- The word of SOFT_INIT asks for a Soft Init and keeps every other bit (log 31). -/
theorem State.deviceControl_withBit_softInit {s : State} {w : Word32} (h₄ : w[4] = false) (h₅ : w[5] = false)
    (h₇ : w[7] = false) (ha : s.asleep = false) : s.deviceControl (withBit w 6) = s.softInit := by
  have hbit (i : Fin 32) := getElem_withBit w 6 i
  exact State.deviceControl_softInit ((hbit 4).trans (by simp [h₄])) ((hbit 5).trans (by simp [h₅]))
    ((hbit 6).trans (by simp)) ((hbit 7).trans (by simp [h₇])) ha

/-- A word that changes Quiesce to 0 and sets no action bit is accepted in Quiescing and Quiesced (R160, R164). -/
theorem State.deviceControl_release {s : State} {v : Word32} (hquiesce : dcQuiesce v = false)
    (hdormant : dcDormant v = false) (hwake : dcWake v = false) (hinit : dcSoftInit v = false)
    (hreset : dcDeviceReset v = false) (hq : s.device.quiesce = true)
    (hp : s.device.power = .quiescing ∨ s.device.power = .quiesced) :
    s.deviceControl v = State.release { s with device := { s.device with irqEnable := dcIrqEnable v } } := by
  have haccepted : s.controlAccepted v = true := by
    simpa [State.controlAccepted, hdormant, hwake, hinit, hquiesce, hq] using hp
  have hchanges : (false != s.device.quiesce) = true := by rw [hq]; rfl
  simp only [State.deviceControl, State.controlEffect, hreset, haccepted, hinit, hdormant, hwake, hchanges, hquiesce,
    Bool.false_eq_true, if_false, if_true]

/-- The word of QUIESCE_RELEASE clears Quiesce and keeps every other bit (log 31). -/
theorem State.deviceControl_clearBit_release {s : State} {w : Word32} (h₄ : w[4] = false) (h₅ : w[5] = false)
    (h₆ : w[6] = false) (h₇ : w[7] = false) (hq : s.device.quiesce = true)
    (hp : s.device.power = .quiescing ∨ s.device.power = .quiesced) :
    s.deviceControl (w &&& ~~~1#32) = State.release { s with device := { s.device with irqEnable := w[1] } } := by
  have hbit (i : Fin 32) := getElem_clearBit w i
  have hirq : dcIrqEnable (w &&& ~~~1#32) = w[1] := (hbit 1).trans (by simp)
  rw [State.deviceControl_release ((hbit 0).trans (by simp)) ((hbit 4).trans (by simp [h₄]))
    ((hbit 5).trans (by simp [h₅])) ((hbit 6).trans (by simp [h₆])) ((hbit 7).trans (by simp [h₇])) hq hp, hirq]

/-! ### The release of a quiesce -/

/-- A change of every channel is a change of the channels alone. -/
theorem State.forChans_modCh_eq (u : State) (f : Channel → Channel) :
    (u.forChans fun c u => u.modCh c f) = { u with chans := (u.forChans fun c u => u.modCh c f).chans } := rfl

/-- A held channel with an operation in progress is owed progress (R165). -/
theorem Channel.owed_eq (h : Channel) : h.owed = (h.heldQuiesce && (h.state ∈ [.running, .draining, .expediting]) &&
    (h.phase == .job || h.phase == .ready) &&
    match h.current with
    | some x => descKind x.image == some .operation && x.beat < descBeats x.image
    | none => false) := by
  have hstate : (h.state == .running || h.state == .draining || h.state == .expediting) =
      decide (h.state ∈ [.running, .draining, .expediting]) := by
    cases h.state <;> rfl
  unfold Channel.owed
  rw [hstate]
  cases h.current with
  | none => simp
  | some x => simp [Current.isOperation, Bool.and_assoc]

/-- An expedite doorbell latched while held claims an automatic park at the release (R120, R164). -/
theorem Channel.claimLatched_eq (h : Channel) : h.claimLatched =
    if (h.state = .running ∨ h.state = .waiting) ∧ h.claim = none ∧ h.expedite.producer ≠ h.expedite.fetch ∧
      h.csbAddress ≠ 0 then { h with claim := some .automatic }
    else h := by
  simp only [Channel.claimLatched, Channel.expediteLatched, Ring.untaken, Bool.and_eq_true, Bool.or_eq_true, beq_iff_eq,
    bne_iff_ne, Option.isNone_iff_eq_none, and_assoc]

/-- The part as the hold of every channel ends, before any deferred command is judged (R164). -/
def State.holdsEnded (s : State) (irqEnable : Bool) : State :=
  State.forChans { s.fresh with
    device := { s.device.touched with irqEnable := irqEnable, quiesce := false, power := .active } }
    fun c u => u.modCh c Channel.released

/-- Settles O30: the word is accepted, and each of the three rounds over the channels is the one stated. -/
theorem quiesceRelease : Obligations.QuiesceRelease := by
  intro s w h₄ h₅ h₆ h₇ hq hp owed latched
  have howed : Channel.owed = owed := funext Channel.owed_eq
  have hlatched : Channel.claimLatched = latched := funext Channel.claimLatched_eq
  have hd : s.begin.wakeDoze.device = s.device.touched := congrArg State.device s.begin_wakeDoze
  have hp' : s.device.touched.power = .quiescing ∨ s.device.touched.power = .quiesced := by
    rcases hp with h | h <;> simp [Device.touched, h]
  refine ⟨s.holdsEnded w[1], fun d => ?_, State.forChans_modCh_eq .., ?_⟩
  · rw [State.holdsEnded, State.forChans_modCh_ch, ← howed]
    rfl
  · rw [exec_quiesceRelease, execQuiesceRelease, State.regWriteSettle, State.offer_deviceControl,
      State.deviceControl_clearBit_release h₄ h₅ h₆ h₇ (by rw [hd]; exact hq) (by rw [hd]; exact hp'), State.begin_wakeDoze,
      ← hlatched]
    rfl

end Sys2Proof.Machine
end

section
/-! PROOF. SOFT_INIT (R113, R135, R159, R160, R171, R172, Table 11-1): the release of the grant, the requests and the records
they get, and the whole part as the acceptance leaves it; and a further SOFT_INIT while one drains. -/
namespace Sys2Proof.Machine
variable (s : State)

/-! ### The release of the grant -/

/-- The part without the beat that holds the grant, the pins of the beat released (R32, R141). -/
def State.withoutBeat : State :=
  match s.beat with
  | some b => { s.releasePins b with beat := none }
  | none => s

theorem State.withoutBeat_of_none {s : State} (hb : s.beat = none) : s.withoutBeat = s := by
  rw [State.withoutBeat, hb]

theorem State.withoutBeat_of_some {s : State} {b : Beat} (hb : s.beat = some b) :
    s.withoutBeat = { s.releasePins b with beat := none } := by
  rw [State.withoutBeat, hb]

/-- Every channel is in the list of all channels. -/
theorem mem_allChans (c : Chan) : c ∈ allChans := by revert c; decide

/-- The grant released for each channel of a list in turn: only the channel of the beat holds it. -/
theorem State.foldl_releaseGrant : ∀ (cs : List Chan) (s : State), (∀ b ∈ s.beat, b.chan ∈ cs) →
    cs.foldl State.releaseGrant s = s.withoutBeat
  | [], s, h => by
    cases hb : s.beat with
    | none => exact (State.withoutBeat_of_none hb).symm
    | some b => exact absurd (h b hb) List.not_mem_nil
  | c :: cs, s, h => by
    rw [List.foldl_cons]
    cases hb : s.beat with
    | none =>
      rw [State.releaseGrant_of_not_granted (by simp [State.granted, hb])]
      exact State.foldl_releaseGrant cs s (by simp [hb])
    | some b =>
      by_cases hc : b.chan = c
      · have hgone : s.releaseGrant c = s.withoutBeat := by
          rw [State.withoutBeat_of_some hb]
          simp [State.releaseGrant, hb, hc]
        have hnone : s.withoutBeat.beat = none := by rw [State.withoutBeat_of_some hb]
        rw [hgone, State.foldl_releaseGrant cs _ (by simp [hnone]), State.withoutBeat_of_none hnone]
      · rw [State.releaseGrant_of_not_granted (by simp [State.granted, hb, hc])]
        exact State.foldl_releaseGrant cs s (by simpa [hb, hc] using h)

theorem State.withoutBeat_eq : s.withoutBeat = { s with beat := none, cache := s.withoutBeat.cache } := by
  cases hb : s.beat with
  | none => rw [State.withoutBeat_of_none hb, ← hb]
  | some b => rw [State.withoutBeat_of_some hb]; rfl

theorem State.withoutBeat_line (n : Nat) : s.withoutBeat.cache.line n = (s.cache.line n).map fun l =>
    { l with pinned := l.pinned && !s.beat.any fun b => b.acqs.any fun q => q.line == n } := by
  cases hb : s.beat with
  | none => simp [State.withoutBeat_of_none hb]
  | some b => rw [State.withoutBeat_of_some hb]; exact s.releasePins_line b n

theorem State.withoutBeat_onlyLines : s.cache.OnlyLines s.withoutBeat.cache := by
  cases hb : s.beat with
  | none => rw [State.withoutBeat_of_none hb]; exact .refl _
  | some b => rw [State.withoutBeat_of_some hb]; exact s.releasePins_onlyLines b

/-! ### Requests without an outcome -/

section Orphan
variable (p : Req → Bool)

theorem State.orphan_eq : s.orphan p = { s with
    link := { s.link.mapOutstanding (Req.orphaned p) with waiting := s.link.waiting.map (Req.orphaned p) } } := by
  have hf : (fun r => if p r then { r with orphan := true } else r) = Req.orphaned p := funext (orphaned_eq p)
  obtain ⟨hw, -, -⟩ := s.link.mapOutstanding_rest (Req.orphaned p)
  simp only [State.orphan, hf, hw]

theorem State.orphan_tag (t : TagId) : (s.orphan p).link.tag t =
    { s.link.tag t with record := (s.link.tag t).record.map fun x => { x with req := x.req.orphaned p } } := by
  have hkeep (l : Link) (ws : List Req) : ({ l with waiting := ws } : Link).tag t = l.tag t := rfl
  simp only [State.orphan_eq, hkeep, Link.mapOutstanding_tag]

theorem State.orphan_waiting : (s.orphan p).link.waiting = s.link.waiting.map (Req.orphaned p) := by
  rw [State.orphan_eq]

theorem State.orphan_settings : (s.orphan p).link.responseTimeout = s.link.responseTimeout ∧
    (s.orphan p).link.lateCount = s.link.lateCount := by
  obtain ⟨-, ht, hc⟩ := s.link.mapOutstanding_rest (Req.orphaned p)
  simp only [State.orphan_eq, ht, hc, and_self]

end Orphan

/-- The requests that a Soft Init leaves without an outcome: those of the channels, prefetches apart, and of the event
engine (R172). -/
def Req.lostBySoftInit (r : Req) : Bool :=
  match r.owner with
  | .channel _ => !r.isPrefetch
  | .engine => true
  | .cache => false

/-! ### Records sealed at the acceptance -/

/-- The record of a completing descriptor whose write still waits (R125; log 13). -/
theorem Channel.withRecord_completing {h : Channel} {x : Current} {status : Status} (hx : h.current = some x)
    (hp : h.phase = .completing status false) (c : Chan) (r : Req) : h.withRecord c r = { r with
      bytes := recordBytes status x 0 <<< (8 * r.firstOffset)
      purpose := .record (if bitsAt (bytesAt x.image 0 4) 4 1 = 1 then
        some (jobCompleteEvent c status x (descCompletion h.compact x.image) 0) else none) } := by
  have hnotify : (descNotify x.image = true) = (bitsAt (bytesAt x.image 0 4) 4 1 = 1) := by
    simp [descNotify, descFlags, descControl, bitsAt]
  simp only [Channel.withRecord, hx, hp, hnotify, placeRecord]

/-- Without a completing descriptor a record write stays as it is. -/
theorem Channel.withRecord_of_not_completing {h : Channel}
    (hn : ∀ x status, h.current = some x → h.phase = .completing status false → False) (c : Chan) (r : Req) :
    h.withRecord c r = r := by
  unfold Channel.withRecord
  split
  · next x status hx hp => exact (hn x status hx hp).elim
  · rfl

section Seal
variable {s : State} {r : Req}

theorem State.sealRecord_record {e : Option Event} {c : Chan} (hp : r.purpose = .record e) (ho : r.owner = .channel c) :
    s.sealRecord r = if r.orphan then r else (s.ch c).withRecord c r := by
  simp only [State.sealRecord, hp, ho]

theorem State.sealRecord_head {live : Bool} {v : Event} {rest : List Event} (hp : r.purpose = .event live)
    (hf : s.engine.fifo = v :: rest) : s.sealRecord r = { r with bytes := placeRecord r v.bytes } := by
  simp only [State.sealRecord, hp, hf]

theorem State.sealRecord_lossMark {live : Bool} {n : Nat} (hp : r.purpose = .event live) (hf : s.engine.fifo = [])
    (hm : s.engine.lossMark = some n) :
    s.sealRecord r = { r with bytes := placeRecord r (eventsLost n s.engine.sequence).bytes } := by
  simp only [State.sealRecord, hp, hf, hm]

theorem State.sealRecord_noItem {live : Bool} (hp : r.purpose = .event live) (hf : s.engine.fifo = [])
    (hm : s.engine.lossMark = none) : s.sealRecord r = r := by
  simp only [State.sealRecord, hp, hf, hm]

theorem State.sealRecord_other (hr : ∀ e c, r.purpose = .record e → r.owner = .channel c → False)
    (he : ∀ live, r.purpose = .event live → False) : s.sealRecord r = r := by
  unfold State.sealRecord
  split
  · next hp ho => exact (hr _ _ hp ho).elim
  · next hp => exact (he _ hp).elim
  · rfl

end Seal

/-- Sealing changes the bytes of a request and the event it carries, and makes no prefetch of it. -/
theorem State.sealRecord_form (r : Req) : ∃ (bytes : Line) (purpose : Purpose),
    s.sealRecord r = { r with bytes := bytes, purpose := purpose } ∧ (purpose == .prefetch) = r.isPrefetch := by
  have hsame : ∃ (bytes : Line) (purpose : Purpose),
      r = { r with bytes := bytes, purpose := purpose } ∧ (purpose == .prefetch) = r.isPrefetch := ⟨_, _, rfl, rfl⟩
  unfold State.sealRecord
  split
  · next hp _ =>
    split
    · exact hsame
    · unfold Channel.withRecord
      split
      · exact ⟨_, _, rfl, by rw [Req.isPrefetch, hp]; rfl⟩
      · exact hsame
  · split
    · exact ⟨_, _, rfl, rfl⟩
    · exact ⟨_, _, rfl, rfl⟩
    · exact hsame
  · exact hsame

/-- A sealed request loses its outcome exactly where it would have lost it before. -/
theorem State.orphaned_sealRecord (r : Req) : (s.sealRecord r).orphaned Req.lostBySoftInit =
    { s.sealRecord r with orphan := r.orphan || r.lostBySoftInit } := by
  obtain ⟨bytes, purpose, hr, hp⟩ := s.sealRecord_form r
  simp only [hr, Req.orphaned, Req.lostBySoftInit, Req.isPrefetch] at hp ⊢
  rw [hp]

/-- The requests as the acceptance leaves them: the writes of a save end, and the others are sealed and drained (R113, R159,
R172; log 13). -/
def State.drainRequests : State :=
  State.orphan { s with link := { s.link with waiting := (s.link.waiting.filter Req.keptBySoftInit).map s.sealRecord } }
    Req.lostBySoftInit

theorem State.drainRequests_waiting : s.drainRequests.link.waiting =
    (s.link.waiting.filter Req.keptBySoftInit).map fun r =>
      { s.sealRecord r with orphan := r.orphan || r.lostBySoftInit } := by
  rw [State.drainRequests, State.orphan_waiting, List.map_map]
  exact List.map_congr_left fun r _ => s.orphaned_sealRecord r

theorem State.drainRequests_tag (t : TagId) : s.drainRequests.link.tag t = { s.link.tag t with
    record := (s.link.tag t).record.map fun x => { x with req := x.req.orphaned Req.lostBySoftInit } } :=
  State.orphan_tag ..

theorem State.drainRequests_settings : s.drainRequests.link.responseTimeout = s.link.responseTimeout ∧
    s.drainRequests.link.lateCount = s.link.lateCount := State.orphan_settings ..

/-! ### The acceptance -/

/-- The part as the acceptance of a Soft Init leaves it, while none drains (R171). -/
theorem State.softInit_eq {s : State} (h : s.device.softInit = false) : s.softInit = { s with
    device := s.device.softInitAccepted
    chans := (s.forChans fun c u => u.modCh c Channel.softInit).chans
    normalPtr := 3, expeditePtr := 3, beat := none
    cache := { s.withoutBeat.cache with queue := [], flushDone := false, lostWriteBacks := 0, prefetchFails := 0 }
    link := s.drainRequests.link, engine := s.engine.softInit } := by
  have hbeat : allChans.foldl State.releaseGrant s = { s with beat := none, cache := s.withoutBeat.cache } := by
    rw [State.foldl_releaseGrant allChans s fun b _ => mem_allChans b.chan, State.withoutBeat_eq]
  simp only [State.softInit, h, hbeat, Bool.false_eq_true, if_false]
  rfl

/-- A channel as the acceptance leaves it (R171, R173, Table 11-1). -/
theorem Channel.softInit_eq (h : Channel) : h.softInit = { Channel.reset with
    compact := h.compact, acw := h.acw, csbAddress := h.csbAddress, apertures := h.apertures, resetDraining := true
    normal := { base := h.normal.base, size := h.normal.size, producer := 0, consumer := 0, fetch := 0 }
    expedite := { base := h.expedite.base, size := h.expedite.size, producer := 0, consumer := 0, fetch := 0 } } := rfl

/-- A further Soft Init while one drains ends a quiesce and nothing else (R160, R172; log 40). -/
theorem State.softInit_of_draining {s : State} (h : s.device.softInit = true) : s.softInit = s.softInitAgain := by
  rw [State.softInit, if_pos h]

theorem State.softInitAgain_ch (d : Chan) :
    s.softInitAgain.ch d = { s.ch d with heldQuiesce := false, progressOwed := false, deferred := [] } :=
  State.forChans_modCh_ch { s with
    device := { s.device with power := .active, quiesce := false, dozeTimer := 0, dormantStep := .none } } _ d

/-- Settles O33: the acceptance field by field where no Soft Init drains, and the end of a quiesce where one does. -/
theorem softInit : Obligations.SoftInit := by
  intro s w h₄ h₅ h₇ ha d noOutcome withRecord
  have hlost : Req.lostBySoftInit = noOutcome := rfl
  have hseal : s.sealRecord = withRecord := by
    funext r
    unfold withRecord
    split
    · next e c hp ho =>
      split
      · next x status hx hs => rw [State.sealRecord_record hp ho, Channel.withRecord_completing hx hs]; rfl
      · next hn => rw [State.sealRecord_record hp ho, Channel.withRecord_of_not_completing hn, ite_self]
    · next hp =>
      split
      · next hf => rw [State.sealRecord_head hp hf]; rfl
      · next hf hm => rw [State.sealRecord_lossMark hp hf hm]; rfl
      · next hf hm => rw [State.sealRecord_noItem hp hf hm]
    · next he hr => exact State.sealRecord_other hr he
  let v := s.begin.wakeDoze
  have hv : v = { s.fresh with device := s.device.touched } := s.begin_wakeDoze
  refine ⟨v.softInit.send .regDone, ?_, fun hi => ?_, fun hi => ?_⟩
  · rw [exec_softInit, execSoftInit, State.regWriteSettle, State.offer_deviceControl,
      State.deviceControl_withBit_softInit h₄ h₅ h₇ (s.wakeDoze_asleep.trans ha)]
  · have hvi : v.device.softInit = false := by rw [hv]; exact hi
    rw [State.softInit_eq hvi]
    refine ⟨?_, fun c => ?_, rfl, rfl, rfl, rfl, ?_, fun n => ?_, fun i => ?_, fun t => ?_, ?_, ?_, ?_, rfl, rfl, rfl⟩
    · rw [hv]; rfl
    · exact (State.forChans_modCh_ch v Channel.softInit c).trans (Channel.softInit_eq _)
    · rw [State.send_cache, v.withoutBeat_onlyLines.rest]; rfl
    · exact v.withoutBeat_line n
    · exact v.withoutBeat_onlyLines.lru i
    · rw [← hlost]; exact v.drainRequests_tag t
    · rw [← hlost, ← hseal]; exact v.drainRequests_waiting
    · exact v.drainRequests_settings.1
    · exact v.drainRequests_settings.2
  · have hvi : v.device.softInit = true := by rw [hv]; exact hi
    rw [State.softInit_of_draining hvi]
    refine ⟨?_, fun c => ?_⟩
    · rw [hv]; rfl
    · rw [State.send_ch, State.softInitAgain_ch]; rfl

end Sys2Proof.Machine
end

section
/-! PROOF. The event engine at the end of a place (R126, R128, R131; log 6): no event of the engine, of an outstanding
completion record write or of the place carries sequence number 0, but for the record writes that are numbered at that end. -/
namespace Sys2Proof.Machine
variable {e : Engine} {l l' : Link} {items : List PlaceItem}

/-! ### Sound engines, links and states -/

/-- No event of the FIFO carries sequence number 0, nor will the next one, and the FIFO keeps to its places (R128, R131). -/
structure Engine.Sound (e : Engine) : Prop where
  next : e.sequence ≠ 0
  fifo : ∀ v ∈ e.fifo, v.sequence ≠ 0
  bound : e.fifo.length ≤ Config.fifoEvents

/-- No event of a request carries sequence number 0, but for the writes that the items number; and no numbered item does. -/
structure Link.Sound (l : Link) (items : List PlaceItem) : Prop where
  tags : ∀ t x, (l.tag t).record = some x →
    x.req.eventNumbered = true ∨ ∃ c, PlaceItem.write t (some c) ∈ items
  waiting : ∀ r ∈ l.waiting, r.eventOfChannel = true
  numbered : ∀ v, PlaceItem.numbered v ∈ items → v.sequence ≠ 0

/-- A state amid a command, whose place is still to be numbered. -/
structure State.EventsSound (s : State) : Prop where
  engine : s.engine.Sound
  link : s.link.Sound s.place

/-- The requests that hold a tag, tag by tag. -/
theorem Link.mem_outstanding {r : Req} : r ∈ l.outstanding ↔ ∃ t x, (l.tag t).record = some x ∧ x.req = r := by
  simp only [Link.outstanding, List.mem_filterMap, mem_allTags, true_and, Option.map_eq_some_iff]

/-- Between places a sound state is one that meets the two invariants of the event engine. -/
theorem State.eventsSound_iff {s : State} (hp : s.place = []) : s.EventsSound ↔ s.SequenceNonzero ∧ s.FifoBounded := by
  constructor
  · rintro ⟨⟨hnext, hfifo, hbound⟩, ⟨htags, hwaiting, -⟩⟩
    refine ⟨⟨hnext, hfifo, fun r hr => ?_, hwaiting⟩, hbound⟩
    obtain ⟨t, x, hx, rfl⟩ := Link.mem_outstanding.1 hr
    simpa [hp] using htags t x hx
  · rintro ⟨⟨hnext, hfifo, htags, hwaiting⟩, hbound⟩
    exact ⟨⟨hnext, hfifo, hbound⟩,
      ⟨fun t x hx => .inl (htags _ (Link.mem_outstanding.2 ⟨t, x, hx, rfl⟩)), hwaiting, by simp [hp]⟩⟩

/-! ### The engine -/

theorem Engine.Sound.bump (h : e.Sound) : ({ e with sequence := nextSequence e.sequence } : Engine).Sound :=
  ⟨nextSequence_ne_zero _, h.fifo, h.bound⟩

/-- Accepting an event gives no number. -/
theorem Engine.accept_sequence (e : Engine) (v : Event) : (e.accept v).sequence = e.sequence := by
  rw [Engine.accept_rest]

/-- A numbered event enters the FIFO where it has a place there (R131). -/
theorem Engine.Sound.accept (h : e.Sound) {v : Event} (hv : v.sequence ≠ 0) : (e.accept v).Sound := by
  refine ⟨e.accept_sequence v ▸ h.next, ?_, ?_⟩
  · intro w hw
    obtain hsame | ⟨hadded, -⟩ := e.accept_fifo v
    · exact h.fifo w (hsame ▸ hw)
    · rw [hadded, List.mem_append, List.mem_singleton] at hw
      obtain hw | rfl := hw
      · exact h.fifo w hw
      · exact hv
  · obtain hsame | ⟨hadded, hroom⟩ := e.accept_fifo v
    · exact hsame ▸ h.bound
    · rw [hadded, List.length_append]
      exact hroom

/-! ### The link -/

/-- Every request of `l'` is one of `l`, as far as the event that it carries goes. -/
structure Link.Within (l l' : Link) : Prop where
  tags : ∀ t x', (l'.tag t).record = some x' →
    ∃ x, (l.tag t).record = some x ∧ (x.req.eventNumbered = true → x'.req.eventNumbered = true)
  waiting : (∀ r ∈ l.waiting, r.eventOfChannel = true) → ∀ r ∈ l'.waiting, r.eventOfChannel = true

theorem Link.Within.sound (h : l.Within l') (hl : l.Sound items) : l'.Sound items where
  tags t x' hx' := by
    obtain ⟨x, hx, hnumbered⟩ := h.tags t x' hx'
    exact (hl.tags t x hx).imp_left hnumbered
  waiting := h.waiting hl.waiting
  numbered := hl.numbered

/-- A link with the same tags. -/
theorem Link.Within.of_tags (ht : l'.tags = l.tags)
    (hw : (∀ r ∈ l.waiting, r.eventOfChannel = true) → ∀ r ∈ l'.waiting, r.eventOfChannel = true) : l.Within l' :=
  ⟨fun t x hx => ⟨x, by simpa only [Link.tag, ht] using hx, id⟩, hw⟩

/-- One tag's record goes, or its request changes without losing a number. -/
theorem Link.Within.putTag {t : TagId} {x : Tag}
    (hx : ∀ y', x.record = some y' →
      ∃ y, (l.tag t).record = some y ∧ (y.req.eventNumbered = true → y'.req.eventNumbered = true)) :
    l.Within (l.putTag t x) where
  tags u y' hy' := by
    rw [Link.tag_putTag] at hy'
    split at hy'
    · next hu => exact hu ▸ hx y' hy'
    · exact ⟨y', hy', id⟩
  waiting := id

/-- A change of all the requests that hold a tag, none of which loses a number. -/
theorem Link.Within.mapOutstanding {f : Req → Req} {ws : List Req}
    (hf : ∀ r, r.eventNumbered = true → (f r).eventNumbered = true)
    (hw : (∀ r ∈ l.waiting, r.eventOfChannel = true) → ∀ r ∈ ws, r.eventOfChannel = true) :
    l.Within { l.mapOutstanding f with waiting := ws } where
  tags t x' hx' := by
    have htag (l : Link) : ({ l with waiting := ws } : Link).tag t = l.tag t := rfl
    rw [htag, Link.mapOutstanding_tag] at hx'
    obtain ⟨x, hx, rfl⟩ := Option.map_eq_some_iff.1 hx'
    exact ⟨x, hx, hf x.req⟩
  waiting := hw

/-- An item fewer, which was no numbered event's and no record write's. -/
theorem Link.Sound.tail {x : PlaceItem} (h : l.Sound (x :: items)) (hx : ∀ t c, x ≠ .write t (some c)) :
    l.Sound items where
  tags t y hy := (h.tags t y hy).imp_right fun ⟨c, hc⟩ =>
    ⟨c, (List.mem_cons.1 hc).resolve_left fun hxc => hx t c hxc.symm⟩
  waiting := h.waiting
  numbered v hv := h.numbered v (List.mem_cons_of_mem _ hv)

/-- The items of a place in any order. -/
theorem Link.Sound.of_mem {items' : List PlaceItem} (h : l.Sound items) (hm : ∀ x, x ∈ items' ↔ x ∈ items) :
    l.Sound items' where
  tags t y hy := (h.tags t y hy).imp_right fun ⟨c, hc⟩ => ⟨c, (hm _).2 hc⟩
  waiting := h.waiting
  numbered v hv := h.numbered v ((hm _).1 hv)

/-- The record in the tag of a request that has been edited. -/
theorem State.editRequest_record (s : State) (t u : TagId) (f : Req → Req) : ((s.editRequest t f).link.tag u).record =
    if u = t then ((s.link.tag t).record.map fun y => { y with req := f y.req }) else (s.link.tag u).record := by
  show ((s.link.putTag t _).tag u).record = _
  rw [Link.tag_putTag]
  split <;> rfl

/-- A completion record write that takes a number carries no event without one (R126). -/
theorem Req.numbered_eventNumbered {n : BitVec 16} (hn : n ≠ 0) (r : Req) : (r.numbered n).eventNumbered = true := by
  unfold Req.numbered
  split
  · simpa [Req.eventNumbered] using hn
  · next hr =>
    unfold Req.eventNumbered
    split
    · next v hv => exact absurd hv (hr v)
    · rfl

/-- A completion record write has taken its number. -/
theorem Link.Sound.number {s : State} {t : TagId} {c : Option Chan} {n : BitVec 16}
    (h : s.link.Sound (.write t c :: items)) (hn : n ≠ 0) :
    (s.editRequest t (Req.numbered n)).link.Sound items where
  tags u y hy := by
    rw [State.editRequest_record] at hy
    split at hy
    · obtain ⟨z, -, rfl⟩ := Option.map_eq_some_iff.1 hy
      exact .inl (Req.numbered_eventNumbered hn z.req)
    · next hu =>
      refine (h.tags u y hy).imp_right fun ⟨d, hd⟩ => ⟨d, (List.mem_cons.1 hd).resolve_left ?_⟩
      rintro ⟨⟩
      exact hu rfl
  waiting := h.waiting
  numbered v hv := h.numbered v (List.mem_cons_of_mem _ hv)

/-- An edit of the bytes of a request. -/
theorem State.editBytes_sound (s : State) (t : TagId) {f : Req → Req} (hf : ∀ r, (f r).purpose = r.purpose)
    (h : s.link.Sound items) : (s.editRequest t f).link.Sound items := by
  have hwithin : s.link.Within (s.link.putTag t
      { s.link.tag t with record := (s.link.tag t).record.map fun y => { y with req := f y.req } }) :=
    .putTag fun y' hy' => by
      obtain ⟨y, hy, rfl⟩ := Option.map_eq_some_iff.1 hy'
      exact ⟨y, hy, fun hr => by simpa only [Req.eventNumbered, hf] using hr⟩
  exact hwithin.sound h

/-! ### The items of a place -/

/-- One item is taken. -/
theorem State.takeItem_sound {s : State} {x : PlaceItem} {xs : List PlaceItem} (he : s.engine.Sound)
    (hl : s.link.Sound (x :: xs)) : (s.takeItem x).engine.Sound ∧ (s.takeItem x).link.Sound xs := by
  cases x with
  | post v => exact ⟨he.bump.accept (v := { v with sequence := s.engine.sequence }) he.next, hl.tail (by simp)⟩
  | numbered v => exact ⟨he.accept (hl.numbered v List.mem_cons_self), hl.tail (by simp)⟩
  | write t c =>
    cases c with
    | some c => exact ⟨he.bump, hl.number he.next⟩
    | none =>
      have hl' := hl.tail (by simp)
      simp only [State.takeItem, State.takeOldest]
      split
      · next _ _ v rest hf =>
        have hmem : ∀ w ∈ rest, w ∈ s.engine.fifo := fun w hw => hf ▸ List.mem_cons_of_mem v hw
        have hlen : rest.length ≤ s.engine.fifo.length := by simp [hf]
        exact ⟨⟨he.next, fun w hw => he.fifo w (hmem w hw), hlen.trans he.bound⟩, State.editBytes_sound _ t (by intro; rfl) hl'⟩
      · exact ⟨⟨he.bump.next, he.fifo, he.bound⟩, State.editBytes_sound _ t (by intro; rfl) hl'⟩
      · exact ⟨he, hl'⟩

/-- All the items of a place are taken. -/
theorem takeItems_sound : ∀ (xs : List PlaceItem) (s : State), s.engine.Sound → s.link.Sound xs →
    (xs.foldl State.takeItem s).engine.Sound ∧ (xs.foldl State.takeItem s).link.Sound []
  | [], _, he, hl => ⟨he, hl⟩
  | x :: xs, s, he, hl => by
    obtain ⟨he', hl'⟩ := State.takeItem_sound he hl
    exact takeItems_sound xs (s.takeItem x) he' hl'

/-- The order of R128 leaves no item out. -/
theorem mem_inPlaceOrder {x : PlaceItem} : x ∈ inPlaceOrder items ↔ x ∈ items := by
  simp only [inPlaceOrder, List.mem_flatMap, List.mem_filter, List.mem_range, beq_iff_eq]
  exact ⟨fun ⟨_, _, hx, _⟩ => hx, fun hx => ⟨x.rank, x.rank_lt, hx, rfl⟩⟩

/-- At the end of a place every event has its number (R128). -/
theorem State.EventsSound.numberPlace {s : State} (h : s.EventsSound) : s.numberPlace.EventsSound := by
  obtain ⟨he, hl⟩ := takeItems_sound (inPlaceOrder s.place) { s with place := [] } h.engine
    (h.link.of_mem fun _ => mem_inPlaceOrder)
  exact ⟨he, s.numberPlace_place.symm ▸ hl⟩

/-- At the end of a command the two invariants of the event engine hold (R128, R131). -/
theorem State.EventsSound.close {s : State} (h : s.EventsSound) : s.close.SequenceNonzero ∧ s.close.FifoBounded := by
  refine (State.eventsSound_iff s.close_place).1 ?_
  obtain ⟨⟨hnext, hfifo, hbound⟩, hl⟩ := h.numberPlace
  have hwaiting (r : Req) : Req.eventOfChannel { r with fresh := false } = r.eventOfChannel := rfl
  have haged : s.numberPlace.link.Within s.close.link := by
    rw [State.close_link]
    refine .of_tags rfl fun hw r hr => ?_
    obtain ⟨q, hq, rfl⟩ := List.mem_map.1 hr
    exact (hwaiting q).trans (hw q hq)
  refine ⟨by rw [State.close_engine]; exact ⟨hnext, hfifo, hbound⟩, ?_⟩
  rw [State.close_place]
  exact s.numberPlace_place ▸ haged.sound hl

/-! ### Messages about the interrupt level -/

/-- A message about the interrupt level (R134). -/
def Message.isInterrupt (m : Message) : Bool := m == .interruptAssert || m == .interruptDeassert

/-- The messages about the interrupt level among those sent (R134). -/
def State.told (s : State) : List Message := s.sent.filter Message.isInterrupt

/-- A change of messages that are no interrupt messages. -/
theorem filter_isInterrupt_map {f : Message → Message}
    (hf : ∀ m, f m = m ∨ (m.isInterrupt = false ∧ (f m).isInterrupt = false)) :
    ∀ ms : List Message, (ms.map f).filter Message.isInterrupt = ms.filter Message.isInterrupt
  | [] => rfl
  | m :: ms => by
    rw [List.map_cons, List.filter_cons, List.filter_cons, filter_isInterrupt_map hf ms]
    obtain hm | ⟨hm, hfm⟩ := hf m
    · rw [hm]
    · simp only [hm, hfm, Bool.false_eq_true, if_false]

theorem State.editRequest_told (s : State) (t : TagId) (f : Req → Req) : (s.editRequest t f).told = s.told := by
  refine filter_isInterrupt_map (fun m => ?_) s.sent
  cases m with
  | request u g r => exact .inr ⟨rfl, by dsimp only; split <;> rfl⟩
  | interruptAssert | interruptDeassert | probeResp answer | regDone => exact .inl rfl

theorem State.takeItem_told (s : State) (x : PlaceItem) : (s.takeItem x).told = s.told := by
  cases x with
  | post v | numbered v => rfl
  | write t c =>
    cases c with
    | some c => exact s.editRequest_told t _
    | none =>
      simp only [State.takeItem, State.takeOldest]
      split
      · exact State.editRequest_told _ t _
      · exact State.editRequest_told _ t _
      · rfl

theorem State.numberPlace_told (s : State) : s.numberPlace.told = s.told :=
  foldl_keeps (p := State.told) State.takeItem_told _ _

/-- The end of a command tells the host of the change of level, and of nothing else (R134). -/
theorem State.close_told (s : State) :
    s.close.told = s.told ++ interruptMessages s.engine.asserted s.interruptLevel := by
  have hmessages : (interruptMessages s.engine.asserted s.interruptLevel).filter Message.isInterrupt =
      interruptMessages s.engine.asserted s.interruptLevel := by
    cases s.engine.asserted <;> cases s.interruptLevel <;> rfl
  rw [State.told, State.close_sent, List.filter_append, hmessages, ← s.numberPlace_told]
  rfl

/-- After a command the level the host was told is the one that R134 defines. -/
theorem State.close_asserted (s : State) : s.close.engine.asserted = s.close.interruptLevel := by
  have hirq : s.close.device.irqEnable = s.device.irqEnable := by
    rw [State.close_device]
    split <;> rfl
  rw [State.interruptLevel, State.close_engine, hirq, s.numberPlace_same.tail, s.numberPlace_same.head,
    s.numberPlace_same.fatal]
  rfl

theorem State.close_fatal (s : State) : s.close.engine.fatal = s.engine.fatal := by
  rw [State.close_engine, s.numberPlace_same.fatal]

end Sys2Proof.Machine
end

section
/-! PROOF. The event engine, the requests and the messages through everything the part does of its own accord (log 6): one
lemma per function of the model that does more than change channels, cache or beat, in the order of the model;
`∀ t ∈ f s, …` where it makes a state only sometimes. -/
namespace Sys2Proof.Machine

/-- What the part says to the host and to the event engine, and its requests. -/
def State.events (s : State) : Engine × List Message × List PlaceItem × Link := (s.engine, s.sent, s.place, s.link)

/-- From `s` to `t` the level that the host was told stays, no message about it is sent, no event gets the number 0 and
none stands beyond the eighth place, and, where `p` asks for it, the device stays Fatal. -/
structure State.KeepsEvents (p : Prop) (s t : State) : Prop where
  asserted : t.engine.asserted = s.engine.asserted
  fatal : p → s.engine.fatal = true → t.engine.fatal = true
  told : t.told = s.told
  sound : s.EventsSound → t.EventsSound

/-- A request that carries no event of a completion record. -/
theorem Req.carries_none {r : Req} (h : ∀ v, r.purpose ≠ .record (some v)) :
    r.eventNumbered = true ∧ r.eventOfChannel = true := by
  unfold Req.eventNumbered Req.eventOfChannel
  constructor
  · split
    · next v hv => exact absurd hv (h v)
    · rfl
  · split
    · rfl
    · next hv _ => exact absurd hv (h _)
    · rfl

/-- A waiting request that is no record write of a channel. -/
theorem Req.eventNumbered_of_other {r : Req} (h : r.eventOfChannel = true)
    (hr : ∀ e c, r.purpose = .record e → r.owner = .channel c → False) : r.eventNumbered = true := by
  refine (Req.carries_none fun v hv => ?_).1
  unfold Req.eventOfChannel at h
  cases ho : r.owner with
  | channel c => exact hr _ c hv ho
  | cache | engine => simp [hv, ho] at h

theorem mem_insertReady {r q : Req} : ∀ {rs : List Req}, q ∈ insertReady r rs → q = r ∨ q ∈ rs
  | [], h => .inl (List.mem_singleton.1 h)
  | x :: xs, h => by
    unfold insertReady at h
    split at h
    · exact List.mem_cons.1 h
    · obtain rfl | h := List.mem_cons.1 h
      · exact .inr List.mem_cons_self
      · exact (mem_insertReady h).imp_right (List.mem_cons_of_mem x)

/-- A request that is served was waiting, and so were the others. -/
theorem pickWaiting_mem {α : Type} {f : List Req → Req → Option α} {x : α × Req × List Req} :
    ∀ {rest before : List Req}, pickWaiting f before rest = some x →
      x.2.1 ∈ before ++ rest ∧ ∀ q ∈ x.2.2, q ∈ before ++ rest
  | [], _, h => by cases h
  | r :: rest, before, h => by
    unfold pickWaiting at h
    split at h
    · obtain rfl := Option.some.inj h
      exact ⟨by simp, fun q hq => by
        rw [List.mem_append] at hq ⊢
        exact hq.imp_right (List.mem_cons_of_mem r)⟩
    · simpa only [List.append_assoc, List.singleton_append] using pickWaiting_mem h

/-- What every change keeps, changes tried in turn keep. -/
theorem tryEach_induction {α : Type} {P : State → Prop} {f : State → α → Option State}
    (hf : ∀ s a, P s → ∀ t ∈ f s a, P t) (xs : List α) {s : State} (hs : P s) : ∀ t ∈ tryEach f s xs, P t := by
  intro t ht
  unfold tryEach at ht
  dsimp only at ht
  split at ht
  · rw [← Option.some.inj ht]
    refine List.foldlRecOn (motive := fun acc : State × Bool => P acc.1) xs _ hs fun acc h x _ => ?_
    split
    · next u hu => exact hf acc.1 x h u hu
    · exact h
  · cases ht

/-- The record write that a channel's request becomes belongs to the channel (R125). -/
theorem Channel.withRecord_eventOfChannel (h : Channel) (c : Chan) {r : Req} (ho : r.owner = .channel c)
    (hr : r.eventOfChannel = true) : (h.withRecord c r).eventOfChannel = true := by
  unfold Channel.withRecord
  split
  · simp only [Req.eventOfChannel, ho]
    split <;> simp_all
  · exact hr

namespace State.KeepsEvents
variable {p : Prop} {s₀ s t : State} {c : Chan}

theorem refl (s : State) : s.KeepsEvents p s := ⟨rfl, fun _ => id, rfl, id⟩

/-! ### Changes made in turn -/

theorem foldl {α : Type} {g : State → α → State} (hg : ∀ (s : State) a, s₀.KeepsEvents p s → s₀.KeepsEvents p (g s a)) :
    ∀ (xs : List α) {s : State}, s₀.KeepsEvents p s → s₀.KeepsEvents p (xs.foldl g s)
  | [], _, hs => hs
  | x :: xs, _, hs => foldl hg xs (hg _ x hs)

/-- What is made of a value, if there is one. -/
theorem map {α : Type} {f : α → State} (hf : ∀ a, s₀.KeepsEvents p (f a)) (o : Option α) :
    ∀ t ∈ o.map f, s₀.KeepsEvents p t := by
  intro t ht
  obtain ⟨a, -, rfl⟩ := Option.mem_map.1 ht
  exact hf a

/-! ### Changes of channels, cache, beat, link and place -/

variable (hs : s₀.KeepsEvents p s)
include hs

theorem of_same (h : t.events = s.events) : s₀.KeepsEvents p t := by
  simp only [State.events, Prod.mk.injEq] at h
  obtain ⟨he, hm, hp, hl⟩ := h
  refine ⟨he ▸ hs.asserted, he ▸ hs.fatal, ?_, fun h₀ => ⟨he ▸ (hs.sound h₀).engine, hl ▸ hp ▸ (hs.sound h₀).link⟩⟩
  rw [← hs.told, State.told, hm, State.told]

theorem forChans {f : Chan → State → State} (hf : ∀ c (s : State), s₀.KeepsEvents p s → s₀.KeepsEvents p (f c s)) :
    s₀.KeepsEvents p (s.forChans f) := foldl (fun s c => hf c s) _ hs

/-- A change of requests none of which thereby carries an event without a number. -/
theorem within {l : Link} (hl : s.link.Within l) (ht : t.events = ({ s with link := l } : State).events) :
    s₀.KeepsEvents p t := by
  have hlink : s₀.KeepsEvents p { s with link := l } :=
    ⟨hs.asserted, hs.fatal, hs.told, fun h₀ => ⟨(hs.sound h₀).engine, hl.sound (hs.sound h₀).link⟩⟩
  exact hlink.of_same ht

/-- A message that is not about the interrupt level. -/
theorem send {m : Message} (hm : m.isInterrupt = false) : s₀.KeepsEvents p (s.send m) := by
  refine ⟨hs.asserted, hs.fatal, ?_, fun h₀ => ⟨(hs.sound h₀).engine, (hs.sound h₀).link⟩⟩
  rw [State.told, State.send_sent, List.filter_append, ← hs.told]
  simp [hm, State.told]

/-- An item of the place that is no event with the number 0. -/
theorem note {x : PlaceItem} (hx : s₀.EventsSound → ∀ v, x = .numbered v → v.sequence ≠ 0) :
    s₀.KeepsEvents p (s.note x) := by
  refine ⟨hs.asserted, hs.fatal, hs.told, fun h₀ => ?_⟩
  obtain ⟨he, htags, hwaiting, hnumbered⟩ := hs.sound h₀
  refine ⟨he, fun t y hy => (htags t y hy).imp_right fun ⟨c, hc⟩ => ⟨c, List.mem_append_left _ hc⟩, hwaiting, ?_⟩
  intro v hv
  obtain hv | hv := List.mem_append.1 hv
  · exact hnumbered v hv
  · exact hx h₀ v (List.mem_singleton.1 hv).symm

theorem post (v : Event) : s₀.KeepsEvents p (s.post v) := hs.note fun _ _ h => nomatch h

/-- A request becomes ready that, where it carries an event, belongs to a channel. -/
theorem ask {r : Req} (hr : r.eventOfChannel = true) : s₀.KeepsEvents p (s.ask r) := by
  have hwithin : s.link.Within { s.link with waiting := insertReady r s.link.waiting } :=
    .of_tags rfl fun hw q hq => by
      obtain rfl | hq := mem_insertReady hq
      · exact hr
      · exact hw q hq
  exact hs.within hwithin rfl

theorem evictLine (n : Nat) (bytes : Line) (sweep : Option Nat) : s₀.KeepsEvents p (s.evictLine n bytes sweep) :=
  ask (s := s.modCache fun k => { k with evict := k.evict ++ [{ line := n, bytes := bytes, sweep := sweep }] })
    (hs.of_same rfl) rfl

theorem withdraw (q : Req → Bool) : s₀.KeepsEvents p (s.withdraw q) := by
  have hwithin : s.link.Within { s.link with waiting := s.link.waiting.filter fun r => !q r } :=
    .of_tags rfl fun hw r hr => hw r (List.mem_filter.1 hr).1
  exact hs.within hwithin (by rw [State.withdraw_eq]; rfl)

theorem orphan (q : Req → Bool) : s₀.KeepsEvents p (s.orphan q) := by
  have hwithin : s.link.Within { s.link.mapOutstanding (Req.orphaned q) with
      waiting := s.link.waiting.map (Req.orphaned q) } :=
    .mapOutstanding (fun _ => id) fun hw r hr => by
      obtain ⟨r', hr', rfl⟩ := List.mem_map.1 hr
      exact hw r' hr'
  refine hs.within hwithin ?_
  simp only [State.orphan, orphaned_eq, (Link.mapOutstanding_rest _ _).1]

theorem giveUp (q : Req → Bool) : s₀.KeepsEvents p (s.giveUp q) := (hs.withdraw q).orphan q

/-! ### The link -/

theorem deliverRead (r : Req) (bytes : Line) : s₀.KeepsEvents p (s.deliverRead r bytes) := by
  unfold State.deliverRead
  split
  · exact hs
  · split <;> exact hs.of_same rfl

/-- A request takes a tag; where it carries an event without a number, its item is among those of the place. -/
theorem issued (t : TagId) {r : Req} {items : List PlaceItem}
    (hr : s₀.EventsSound → r.eventNumbered = true ∨ ∃ c, PlaceItem.write t (some c) ∈ s.place ++ items)
    (hi : ∀ v, PlaceItem.numbered v ∉ items) :
    s₀.KeepsEvents p { s.issue t r with place := s.place ++ items } := by
  have hsent : s₀.KeepsEvents p (s.send (.request t (s.link.tag t).gen { r with fresh := false })) := hs.send rfl
  refine ⟨hs.asserted, hs.fatal, hsent.told, fun h₀ => ?_⟩
  obtain ⟨he, htags, hwaiting, hnumbered⟩ := hs.sound h₀
  refine ⟨he, fun u y hy => ?_, hwaiting, fun v hv => hnumbered v ((List.mem_append.1 hv).resolve_right (hi v))⟩
  have hy : ((s.link.putTag t _).tag u).record = some y := hy
  rw [Link.tag_putTag] at hy
  split at hy
  · next hu =>
    obtain rfl := Option.some.inj hy
    exact hu ▸ hr h₀
  · exact (htags u y hy).imp_right fun ⟨c, hc⟩ => ⟨c, List.mem_append_left _ hc⟩

theorem issue (t : TagId) {r : Req} (hr : s₀.EventsSound → r.eventNumbered = true) :
    s₀.KeepsEvents p (s.issue t r) :=
  (hs.issued (items := []) t (fun h₀ => .inl (hr h₀)) (by simp)).of_same
    (by simp only [State.events, List.append_nil, State.issue_place])

/-- A record write that carries an event is numbered at the end of the place (R126, R128). -/
theorem issueRecord (t : TagId) (c : Chan) (r : Req) : s₀.KeepsEvents p (s.issueRecord t c r) := by
  have hmarked : s₀.KeepsEvents p (if r.orphan then s else s.modCh c Channel.recordIssued) := by
    split <;> exact hs.of_same rfl
  unfold State.issueRecord
  extract_lets r' u
  split
  · exact (hmarked.issued (items := [.write t (some c)]) t (fun _ => .inr ⟨c, by simp⟩) (by simp)).of_same rfl
  · next hn => exact hmarked.issue t fun _ => (Req.carries_none fun v hv => hn v hv).1

theorem issueEvent (t : TagId) {r : Req} (hr : r.eventNumbered = true) : s₀.KeepsEvents p (s.issueEvent t r) := by
  unfold State.issueEvent
  split
  · exact hs.issue t fun _ => hr
  · split
    · exact hs
    · exact (hs.issue t fun _ => hr).note fun _ _ h => nomatch h

theorem takeFor (r : Req) : s₀.KeepsEvents p (s.takeFor r) := by
  unfold State.takeFor
  split
  · split <;> exact hs.of_same rfl
  · exact hs

theorem issueByClass (t : TagId) {r : Req} (hr : s₀.EventsSound → r.eventOfChannel = true) :
    s₀.KeepsEvents p (s.issueByClass t r) := by
  unfold State.issueByClass
  extract_lets dropped marked
  have hmarked : s₀.KeepsEvents p marked := by
    have hdropped : s₀.KeepsEvents p dropped := by
      dsimp only [dropped]
      split <;> exact hs.of_same rfl
    dsimp only [marked]
    split
    · exact hdropped.of_same rfl
    · exact hdropped
  split
  · exact hmarked.issueRecord t _ r
  · next hp => exact hmarked.issueEvent t (Req.carries_none fun v hv => nomatch hp.symm.trans hv).1
  · next _ hrecord => exact (hmarked.takeFor r).issue t fun h₀ => Req.eventNumbered_of_other (hr h₀) hrecord

theorem serve : ∀ t ∈ s.serve, s₀.KeepsEvents p t := by
  unfold State.serve
  split
  · simp
  · next what r others hpick =>
    obtain ⟨hr, hothers⟩ := pickWaiting_mem hpick
    have hwithin : s.link.Within { s.link with waiting := others } := .of_tags rfl fun hw q hq => hw q (hothers q hq)
    have hleft : s₀.KeepsEvents p { s with link := { s.link with waiting := others } } := hs.within hwithin rfl
    split <;> rintro t ⟨⟩
    · exact hleft.issueByClass _ fun h₀ => (hs.sound h₀).link.waiting r hr
    · exact (hleft.takeFor r).deliverRead r _
    · exact evictLine (s := s.modCache _) (hs.of_same rfl) _ _ _

/-! ### The cache at work for a beat -/

theorem evictIfDirty (i : SetId) (w : CacheWay) (upper : Bool) (sweep : Option Nat) :
    s₀.KeepsEvents p (s.evictIfDirty i w upper sweep) := by
  unfold State.evictIfDirty
  dsimp only
  split
  · exact hs.evictLine _ _ _
  · exact hs

theorem takeWay (n : Nat) : ∀ t ∈ s.takeWay n, s₀.KeepsEvents p t := by
  unfold State.takeWay
  dsimp only
  split
  · simp
  · split
    · simp
    · rintro t ⟨⟩
      exact ((hs.evictIfDirty _ _ _ _).evictIfDirty _ _ _ _).of_same rfl

theorem touchOnce (i : SetId) (w : WayId) : s₀.KeepsEvents p (s.touchOnce i w) :=
  hs.of_same (by rw [s.touchOnce_onlySets i w]; rfl)

theorem noteTouched (n : Nat) : s₀.KeepsEvents p (s.noteTouched n) := by
  unfold State.noteTouched
  split <;> exact hs.of_same rfl

theorem askFill (c : Chan) (n : Nat) (kind : ReqKind) {purpose : Purpose} (hp : ∀ v, purpose ≠ .record (some v)) :
    s₀.KeepsEvents p (s.askFill c n kind purpose) :=
  ask (s := s.modCache _) (hs.of_same rfl) (Req.carries_none hp).2

theorem readCached (c : Chan) (i : Nat) (a : Access) : ∀ t ∈ s.readCached c i a, s₀.KeepsEvents p t := by
  unfold State.readCached
  dsimp only
  split
  · split
    · rintro t ⟨⟩
      exact (hs.touchOnce _ _).of_same rfl
    · split
      · rintro t ⟨⟩
        exact hs.of_same rfl
      · split
        · simp
        · rintro t ⟨⟩
          exact (hs.askFill c _ _ (by simp)).of_same rfl
  · intro t ht
    obtain ⟨u, hu, rfl⟩ := Option.mem_map.1 ht
    exact (((hs.takeWay _ u hu).noteTouched _).askFill c _ _ (by simp)).of_same rfl

theorem readDirect (c : Chan) (i : Nat) (a : Access) : s₀.KeepsEvents p (s.readDirect c i a) := by
  unfold State.readDirect
  extract_lets n mark asked
  have hasked : s₀.KeepsEvents p (asked s) := by
    dsimp only [asked]
    split
    · exact hs
    · exact ask (s := s.modBeat _) (hs.of_same rfl) rfl
  split
  · split
    · exact hs.of_same rfl
    · exact hasked
  · exact hasked

theorem readOne (c : Chan) (i : Nat) : ∀ t ∈ s.readOne c i, s₀.KeepsEvents p t := by
  unfold State.readOne
  split
  · simp
  · split
    · simp
    · split
      · exact hs.readCached c i _
      · rintro t ⟨⟩
        exact hs.readDirect c i _

theorem readPass (c : Chan) : ∀ t ∈ s.readPass c, s₀.KeepsEvents p t := by
  unfold State.readPass
  split
  · simp
  · exact tryEach_induction (fun s i hs => hs.readOne c i) _ hs

theorem fillData (r : Req) (state : LineState) (bytes : Line) : s₀.KeepsEvents p (s.fillData r state bytes) := by
  have hfilled (u : State) (hu : u.events = s.events) (c : Chan) (n : Nat) : s₀.KeepsEvents p (u.considerPrefetch c n) := by
    unfold State.considerPrefetch
    split
    · exact (hs.of_same hu).askFill c _ _ (by simp)
    · exact hs.of_same hu
  unfold State.fillData
  dsimp only
  split
  · exact hfilled _ (by rfl) _ _
  · exact hs.of_same rfl

theorem acquireOne (c : Chan) (q : Acq) : ∀ t ∈ s.acquireOne c q, s₀.KeepsEvents p t := by
  unfold State.acquireOne
  extract_lets n waits x
  split
  · simp
  · split
    · next w _ =>
      extract_lets l pinned s'
      have hpin : s₀.KeepsEvents p ((if l.state == .invalid then s else s.touchOnce (lineSet n) w).pin n) := by
        split
        · exact hs.of_same rfl
        · exact (hs.touchOnce _ _).of_same rfl
      have hpinned : ∀ t ∈ pinned, s₀.KeepsEvents p t := by
        dsimp only [pinned]
        split
        · simp
        · rintro t ⟨⟩
          exact hpin
      have hs' : s₀.KeepsEvents p s' := by
        dsimp only [s']
        cases h : pinned with
        | none => exact hs
        | some t => exact hpinned t h
      split
      · exact hpinned
      · split
        · split
          · exact hpinned
          · have hissued : s₀.KeepsEvents p (s'.setAcq n .issued) := hs'.of_same rfl
            rintro t ⟨⟩
            exact hissued.ask rfl
        · have hdropped : s₀.KeepsEvents p (if waits then s'.dropUpgrade n else s') := by
            split
            · exact hs'.withdraw _
            · exact hs'
          have hissued (u : State) (hu : s₀.KeepsEvents p u) : s₀.KeepsEvents p (u.setAcq n .issued) := hu.of_same rfl
          rintro t ⟨⟩
          exact (hissued _ hdropped).askFill c n _ (by simp)
    · split
      · rintro t ⟨⟩
        exact hs.of_same rfl
      · intro t ht
        obtain ⟨u, hu, rfl⟩ := Option.mem_map.1 ht
        have hissued : s₀.KeepsEvents p (((u.noteTouched n).pin n).setAcq n .issued) :=
          ((hs.takeWay n u hu).noteTouched n).of_same rfl
        exact hissued.askFill c n _ (by simp)

theorem acquirePass (c : Chan) : ∀ t ∈ s.acquirePass c, s₀.KeepsEvents p t := by
  unfold State.acquirePass
  split
  · simp
  · refine tryEach_induction (fun s q hs => ?_) _ hs
    split
    · exact hs.acquireOne c _
    · simp

/-! ### Faults, Error and completion -/

theorem releaseGrant (c : Chan) : s₀.KeepsEvents p (s.releaseGrant c) :=
  hs.of_same (by rw [State.releaseGrant_eq]; rfl)

theorem discardBeat (c : Chan) : s₀.KeepsEvents p (s.discardBeat c) := by
  rw [State.discardBeat_eq]
  split
  · exact (hs.releaseGrant c).giveUp _
  · exact hs

theorem enterFaulted (c : Chan) (f : FaultRec) : s₀.KeepsEvents p (s.enterFaulted c f) :=
  post (s := (s.discardBeat c).modCh c fun h => h.faulted f) ((hs.discardBeat c).of_same rfl) _

theorem raiseBeatFault (c : Chan) (f : FaultRec) : s₀.KeepsEvents p (s.raiseBeatFault c f) :=
  (hs.releaseGrant c).of_same rfl

theorem settleFault (h : Channel) : ∀ t ∈ s.settleFault c h, s₀.KeepsEvents p t := by
  unfold State.settleFault
  split
  · simp
  · split
    · next x _ =>
      split
      · generalize h.commitFault x = back
        rintro t ⟨⟩
        exact enterFaulted (s := s.setCh c _) (hs.of_same rfl) _ _
      · exact map (fun f => hs.enterFaulted c f) _
    · simp

theorem enterError (c : Chan) (cause : ErrCause) (kind : EventKind) (detail : Word64) :
    s₀.KeepsEvents p (s.enterError c cause kind detail) := by
  unfold State.enterError
  split
  · exact hs
  · extract_lets given
    have hgiven : s₀.KeepsEvents p given := (hs.discardBeat c).giveUp _
    have herror (f : Channel → Channel) : s₀.KeepsEvents p (given.modCh c f) := hgiven.of_same rfl
    exact (herror _).post _

theorem complete (c : Chan) (status : Status) : s₀.KeepsEvents p (s.complete c status) := by
  have hfinish : s₀.KeepsEvents p (s.modCh c Channel.finish) := hs.of_same rfl
  unfold State.complete
  dsimp only
  split
  · exact hs
  · split
    · split
      · exact hfinish.post _
      · exact hfinish
    · exact ask (s := s.modCh c _) (hs.of_same rfl) rfl

/-! ### Taking and executing descriptors -/

theorem fetchHalf (c : Chan) (address : Nat) (upper : Bool) : s₀.KeepsEvents p (s.fetchHalf c address upper) := by
  unfold State.fetchHalf
  dsimp only
  split
  · split
    · exact (hs.takeFor _).deliverRead _ _
    · exact hs.ask rfl
  · exact hs.ask rfl

theorem fetchHalves (c : Chan) (ring : RingId) (location : Word64) : s₀.KeepsEvents p (s.fetchHalves c ring location) :=
  (hs.fetchHalf _ _ _).fetchHalf _ _ _

theorem startFetch (c : Chan) (ring : RingId) (location : Word64) : s₀.KeepsEvents p (s.startFetch c ring location) :=
  fetchHalves (s := s.modCh c _) (hs.of_same rfl) _ _ _

theorem startTaking (c : Chan) (ring : RingId) (location : Word64) : s₀.KeepsEvents p (s.startTaking c ring location) :=
  fetchHalves (s := s.modCh c _) (hs.of_same rfl) _ _ _

theorem stopTaking (c : Chan) : s₀.KeepsEvents p (s.stopTaking c) := (hs.withdraw _).of_same rfl

theorem fetched (c : Chan) (lo hi : FetchHalf) : s₀.KeepsEvents p (s.fetched c lo hi) := by
  unfold State.fetched
  extract_lets h ring location address failed
  split
  · exact hs.enterFaulted _ _
  · exact hs.enterFaulted _ _
  · extract_lets image ready
    have hready : s₀.KeepsEvents p ready := hs.of_same rfl
    split
    · exact hready
    · exact hready.enterFaulted _ _
  · exact hs

theorem execute (c : Chan) (h : Channel) (x : Current) : s₀.KeepsEvents p (s.execute c h x) := by
  have hmod (f : Channel → Channel) : s₀.KeepsEvents p (s.modCh c f) := hs.of_same rfl
  unfold State.execute
  split
  · split
    · exact (hmod _).complete _ _
    · exact hmod _
  · unfold State.execSetControl
    dsimp only
    split
    · exact (hmod _).complete _ _
    · exact hs.enterFaulted _ _
  · unfold State.execFence
    split
    · exact hmod _
    · exact hs.complete _ _
  · exact hs.of_same rfl
  · unfold State.execCall
    split
    · exact hs.enterFaulted _ _
    · exact hmod _
  · unfold State.execReturn
    split
    · exact hs.enterFaulted _ _
    · exact hmod _
  · exact hs.complete _ _
  · exact hs

/-! ### Saving, restoring and expedited work -/

theorem saveStage (c : Chan) (v : Save) : s₀.KeepsEvents p (s.saveStage c v) := by
  have hblock : ∀ r ∈ saveStageWrites c v, r.eventOfChannel = true := by
    have hwrite (off n : Nat) (zero : Bool) : (saveWrite c v off n zero).eventOfChannel = true := rfl
    unfold saveStageWrites
    split <;> simp [hwrite]
  refine List.foldlRecOn (motive := s₀.KeepsEvents p) _ _ (hs.of_same rfl) fun u hu r hr => hu.ask (hblock r hr)

theorem beginSave (c : Chan) (origin : Origin) : s₀.KeepsEvents p (s.beginSave c origin) :=
  saveStage (s := s.modCh c _) (hs.of_same rfl) _ _

theorem saveDone (c : Chan) (v : Save) : s₀.KeepsEvents p (s.saveDone c v) := by
  unfold State.saveDone
  split
  · exact post (s := s.modCh c _) (hs.of_same rfl) _
  · exact hs.of_same rfl

theorem saveStep (h : Channel) : ∀ t ∈ s.saveStep c h, s₀.KeepsEvents p t := by
  unfold State.saveStep
  split
  · simp
  · split
    · simp
    · split <;> rintro t ⟨⟩
      · exact hs.saveStage _ _
      · exact hs.saveDone _ _

theorem beginRestore (c : Chan) (byUnpark : Bool) : s₀.KeepsEvents p (s.beginRestore c byUnpark) :=
  foldl (fun _ _ hs => hs.ask rfl) _ (hs.of_same rfl)

theorem applyRestart (c : Chan) (choice : Restart) : s₀.KeepsEvents p (s.applyRestart c choice) := by
  cases choice with
  | continue_ | restartJob => exact hs.of_same rfl
  | abandonJob => exact hs.complete _ _
  | skipWait => exact complete (s := s.modCh c _) (hs.of_same rfl) _ _

theorem restoreStep (h : Channel) : ∀ t ∈ s.restoreStep c h, s₀.KeepsEvents p t := by
  unfold State.restoreStep
  split
  · simp
  · split
    · simp
    · split
      · rintro t ⟨⟩
        exact hs.enterError _ _ _ _
      · extract_lets taken told restarted
        have htaken : s₀.KeepsEvents p taken := hs.of_same rfl
        have htold : s₀.KeepsEvents p told := by
          dsimp only [told]
          split
          · exact htaken.post _
          · exact htaken
        rintro t ⟨⟩
        exact (htold.applyRestart _ _).of_same rfl

theorem expediteEnd (c : Chan) (h : Channel) : s₀.KeepsEvents p (s.expediteEnd c h) := by
  have hmod (f : Channel → Channel) : s₀.KeepsEvents p (s.modCh c f) := hs.of_same rfl
  unfold State.expediteEnd
  dsimp only
  split
  · split
    · exact (hmod _).post _
    · exact hs.beginRestore _ _
  · split
    · exact (hmod _).beginSave _ _
    · exact hmod _
  · split
    · exact (hmod _).beginSave _ _
    · exact hmod _
  · exact hmod _

/-! ### The sequencer -/

theorem applyHold (h : Channel) : ∀ t ∈ s.applyHold c h, s₀.KeepsEvents p t := by
  unfold State.applyHold
  dsimp only
  split
  · rintro t ⟨⟩
    exact hs.of_same rfl
  · simp

theorem endDrain (h : Channel) : ∀ t ∈ s.endDrain c h, s₀.KeepsEvents p t := by
  unfold State.endDrain
  split
  · rintro t ⟨⟩
    exact hs.of_same rfl
  · simp

theorem chooseNext (c : Chan) (h : Channel) : s₀.KeepsEvents p (s.chooseNext c h) := by
  unfold State.chooseNext
  split
  · exact hs.startTaking _ _ _
  · split
    · exact hs.expediteEnd _ _
    · exact hs.of_same rfl

theorem workStep (h : Channel) : ∀ t ∈ s.workStep c h, s₀.KeepsEvents p t := by
  have hpark (o : Origin) : s₀.KeepsEvents p (s.beginSave c o) := hs.beginSave c o
  have hdone (status : Status) : s₀.KeepsEvents p (s.complete c status) := hs.complete c status
  intro t ht
  unfold State.workStep at ht
  split at ht
  · next u hu => exact hs.settleFault h t (hu.trans ht)
  · split at ht
    · cases ht
    · cases hp : h.phase with
      | choose =>
        simp only [hp] at ht
        split at ht
        · cases ht
        · split at ht <;> obtain rfl := Option.some.inj ht
          · exact hpark _
          · exact hs.chooseNext _ _
      | taking =>
        simp only [hp] at ht
        split at ht
        · obtain rfl := Option.some.inj ht
          exact hs.stopTaking c
        · cases ht
      | fetching lo hi =>
        simp only [hp] at ht
        split at ht
        · cases ht
        · obtain rfl := Option.some.inj ht
          exact hs.fetched _ _ _
      | ready =>
        simp only [hp] at ht
        split at ht
        · cases ht
        · split at ht
          · obtain rfl := Option.some.inj ht
            exact hpark _
          · exact map (fun x => hs.execute c h x) _ t ht
      | job =>
        simp only [hp] at ht
        split at ht
        · cases ht
        · exact map hpark _ t ht
      | ending =>
        simp only [hp] at ht
        split at ht
        · cases ht
        · split at ht
          · obtain rfl := Option.some.inj ht
            exact hpark _
          · exact map (fun x : Current => hdone x.endStatus) _ t ht
      | fence =>
        simp only [hp] at ht
        split at ht
        · cases ht
        · obtain rfl := Option.some.inj ht
          exact hdone _
      | flushing sweep =>
        cases sweep with
        | none => simp only [hp] at ht; cases ht
        | some n =>
          simp only [hp] at ht
          split at ht
          · obtain rfl := Option.some.inj ht
            exact hdone _
          · cases ht
      | completing status issued =>
        simp only [hp] at ht
        split at ht
        · obtain rfl := Option.some.inj ht
          exact hs.of_same rfl
        · cases ht
      | drained =>
        simp only [hp] at ht
        split at ht
        · cases ht
        · obtain rfl := Option.some.inj ht
          exact hs.of_same rfl

theorem idleStep (h : Channel) : ∀ t ∈ s.idleStep c h, s₀.KeepsEvents p t := by
  unfold State.idleStep
  split
  · simp
  · split
    · rintro t ⟨⟩
      exact hs.beginSave _ _
    · split
      · rintro t ⟨⟩
        exact hs.of_same rfl
      · split
        · rintro t ⟨⟩
          exact hs.of_same rfl
        · simp

theorem waitStep (h : Channel) : ∀ t ∈ s.waitStep c h, s₀.KeepsEvents p t := by
  unfold State.waitStep
  split
  · simp
  · split
    · rintro t ⟨⟩
      exact hs.beginSave _ _
    · split
      · rintro t ⟨⟩
        exact complete (s := s.modCh c _) (hs.of_same rfl) _ _
      · split
        · rintro t ⟨⟩
          exact hs.of_same rfl
        · simp

theorem chanStep : ∀ t ∈ s.chanStep c, s₀.KeepsEvents p t := by
  intro t ht
  unfold State.chanStep at ht
  dsimp only at ht
  split at ht
  · next u hu => exact hs.endDrain _ t (hu.trans ht)
  · split at ht
    · next u hu => exact hs.applyHold _ t (hu.trans ht)
    · cases he : (s.ch c).state with
      | disabled | faulted | error => simp [he] at ht
      | idle => exact hs.idleStep _ t (by simpa only [he] using ht)
      | running | draining | expediting => exact hs.workStep _ t (by simpa only [he] using ht)
      | waiting => exact hs.waitStep _ t (by simpa only [he] using ht)
      | parked =>
        simp only [he] at ht
        split at ht
        · obtain rfl := Option.some.inj ht
          exact hs.of_same rfl
        · cases ht
      | saving => exact hs.saveStep _ t (by simpa only [he] using ht)
      | restoring => exact hs.restoreStep _ t (by simpa only [he] using ht)

/-! ### The beat -/

theorem startAttempt (c : Chan) (fullMasked : Bool) : s₀.KeepsEvents p (s.startAttempt c fullMasked) := by
  have hbeat (b : Option Beat) : s₀.KeepsEvents p { s with beat := b } := hs.of_same rfl
  unfold State.startAttempt
  dsimp only
  split
  · exact hs
  · split
    · exact (hbeat _).raiseBeatFault _ _
    · exact hbeat _

theorem indexDone (b : Beat) (h : Channel) (x : Current) : s₀.KeepsEvents p (s.indexDone b h x) := by
  unfold State.indexDone
  dsimp only
  split
  · exact hs.raiseBeatFault _ _
  · exact hs.of_same rfl

theorem arithmeticStop (b : Beat) (x : Current) (conds : CondSet) (f : FaultRec) :
    s₀.KeepsEvents p (s.arithmeticStop b x conds f) := by
  unfold State.arithmeticStop
  extract_lets c flagged count
  have hflagged : s₀.KeepsEvents p flagged := hs.of_same rfl
  split
  · exact startAttempt (post (s := flagged.modCh c _) (hflagged.of_same rfl) _) _ _
  · exact hflagged.raiseBeatFault _ _

theorem compute (b : Beat) (h : Channel) (x : Current) : s₀.KeepsEvents p (s.compute b h x) := by
  unfold State.compute
  extract_lets
  split
  · exact hs.arithmeticStop _ _ _ _
  · split
    · exact hs.arithmeticStop _ _ _ _
    · exact hs.of_same rfl

theorem failStage (c : Chan) (f : FaultRec) : ∀ t ∈ s.failStage c f, s₀.KeepsEvents p t := by
  unfold State.failStage
  dsimp only
  split
  · rintro t ⟨⟩
    exact hs.withdraw _
  · split
    · simp
    · rintro t ⟨⟩
      exact hs.raiseBeatFault _ _

theorem clearBypassLine (n : Nat) : s₀.KeepsEvents p (s.clearBypassLine n) := by
  unfold State.clearBypassLine
  split
  · split
    · exact evictLine (s := s.modCache _) (hs.of_same rfl) _ _ _
    · exact hs.of_same rfl
  · exact hs

theorem commit (b : Beat) (x : Current) : s₀.KeepsEvents p (s.commit b x) := by
  have hwritten : s₀.KeepsEvents p (s.written b x) := hs.of_same (by rw [s.written_onlySets b x]; rfl)
  rw [State.commit_eq]
  exact (foldl (fun _ _ hs => hs.ask rfl) _ (foldl (fun _ n hs => hs.clearBypassLine n) _ hwritten)).of_same rfl

theorem beatStep : ∀ t ∈ s.beatStep, s₀.KeepsEvents p t := by
  intro t ht
  unfold State.beatStep at ht
  split at ht
  · cases ht
  · next b _ =>
    extract_lets h at ht
    split at ht
    · cases ht
    · next x _ =>
      have hread : s₀.KeepsEvents p (if b.stage == .index then s.indexDone b h x else s.compute b h x) := by
        split
        · exact hs.indexDone b h x
        · exact hs.compute b h x
      cases hb : b.stage with
      | scatter =>
        simp only [hb] at ht
        split at ht
        · exact hs.failStage _ _ t ht
        · split at ht
          · next u hu => exact hs.acquirePass _ t (hu.trans ht)
          · split at ht
            · obtain rfl := Option.some.inj ht
              exact hs.commit b x
            · cases ht
      | index | source =>
        simp only [hb] at ht hread
        split at ht
        · exact hs.failStage _ _ t ht
        · split at ht
          · obtain rfl := Option.some.inj ht
            exact hread
          · exact hs.readPass _ t ht

theorem grantBeat : s₀.KeepsEvents p s.grantBeat := by
  have hchoice : ∀ x ∈ s.arbiterChoice, s₀.KeepsEvents p x.2 := by
    unfold State.arbiterChoice
    split
    · rintro x ⟨⟩
      exact hs.of_same rfl
    · split
      · rintro x ⟨⟩
        exact hs.of_same rfl
      · simp
  unfold State.grantBeat
  split
  · exact hs
  · split
    · exact hs
    · next c u hu => exact startAttempt (hchoice (c, u) hu) _ _

/-! ### Sweeps, the power controller, and settling -/

theorem startSweep : ∀ t ∈ s.startSweep, s₀.KeepsEvents p t := by
  unfold State.startSweep
  split
  · extract_lets kind n started
    have hstarted : s₀.KeepsEvents p started := hs.of_same rfl
    clear_value started kind
    cases kind with
    | flush c => rintro t ⟨⟩; exact hstarted.of_same rfl
    | command | dormantEntry => rintro t ⟨⟩; exact hstarted
  · simp

theorem endCommandSweep : ∀ t ∈ s.endCommandSweep, s₀.KeepsEvents p t := by
  unfold State.endCommandSweep
  split
  · rintro t ⟨⟩
    exact hs.of_same rfl
  · simp

theorem sweepLine (sweep : Sweep) (i : SetId) (w : WayId) (upper : Bool) :
    s₀.KeepsEvents p (s.sweepLine sweep i w upper) := by
  unfold State.sweepLine
  extract_lets y l put
  have hput (x : CacheLine) : s₀.KeepsEvents p (put s x) := hs.of_same rfl
  split
  · split
    · exact (hput _).evictLine _ _ _
    · exact hs
  all_goals
    split
    · exact hs
    · split
      · exact (hput _).evictLine _ _ _
      · split
        · exact hs
        · exact hput _

theorem sweepNext : s₀.KeepsEvents p s.sweepNext := by
  unfold State.sweepNext
  split
  · exact hs
  · dsimp only
    split
    · exact hs
    · exact (foldl (fun _ w hs => (hs.sweepLine _ _ w false).sweepLine _ _ w true) allWays hs).of_same rfl

theorem softInitDone : ∀ t ∈ s.softInitDone, s₀.KeepsEvents p t := by
  unfold State.softInitDone
  split
  · rintro t ⟨⟩
    exact hs.of_same rfl
  · simp

theorem quiescingDone : ∀ t ∈ s.quiescingDone, s₀.KeepsEvents p t := by
  unfold State.quiescingDone
  split
  · have hquiesced : s₀.KeepsEvents p (s.setPower .quiesced) := hs.of_same rfl
    rintro t ⟨⟩
    exact hquiesced.post _
  · simp

theorem dormantNext : ∀ t ∈ s.dormantNext, s₀.KeepsEvents p t := by
  unfold State.dormantNext
  split
  · simp
  · split
    · rintro t ⟨⟩
      exact hs.of_same rfl
    · simp
  · split
    · have hacknowledged : s₀.KeepsEvents p (s.setDormantStep .acknowledged) := hs.of_same rfl
      split <;> rintro t ⟨⟩
      · exact hs.of_same rfl
      · exact hacknowledged.post _
    · simp
  · split
    · rintro t ⟨⟩
      exact hs.of_same rfl
    · split
      · rintro t ⟨⟩
        exact hs.of_same rfl
      · simp

/-- One action of the part's own (log 6). -/
theorem progress (h : s.progress = some t) : s₀.KeepsEvents p t := by
  obtain ⟨c, h⟩ | h | h | h | h | h | h | h := State.progress_cases h
  · exact hs.chanStep t h
  · exact hs.beatStep t h
  · exact hs.serve t h
  · exact hs.endCommandSweep t h
  · exact hs.startSweep t h
  · exact hs.softInitDone t h
  · exact hs.quiescingDone t h
  · exact hs.dormantNext t h

/-- The part goes on until it waits. -/
theorem settle : s₀.KeepsEvents p s.settle :=
  settleLoop_induction (P := s₀.KeepsEvents p) (fun _ _ hs h => hs.progress h) _ s hs

end State.KeepsEvents
end Sys2Proof.Machine
end

section
/-! PROOF. The event engine, the requests and the messages through resets, channel commands, responses, register writes and
every command: O6, O10 and O11. -/
namespace Sys2Proof.Machine

/-- A request that waits at a Soft Init gets its record, and still belongs to its channel (R171; log 13). -/
theorem State.sealRecord_eventOfChannel (s : State) {r : Req} (hr : r.eventOfChannel = true) :
    (s.sealRecord r).eventOfChannel = true := by
  unfold State.sealRecord
  split
  · next ho =>
    split
    · exact hr
    · exact Channel.withRecord_eventOfChannel _ _ ho hr
  · split <;> exact hr
  · exact hr

theorem Req.deaden_eventNumbered (r : Req) : r.deaden.eventNumbered = r.eventNumbered := by
  unfold Req.deaden
  split
  · next h => simp only [beq_iff_eq] at h; simp only [Req.eventNumbered, h]
  · rfl

theorem Engine.Sound.reset {e : Engine} (hs : e.sequence = 1) (hf : e.fifo = []) : e.Sound :=
  ⟨by rw [hs]; decide, by simp [hf], by simp [hf]⟩

theorem Link.Sound.reset : Link.reset.Sound [] where
  tags t x hx := by
    have hfree : (Link.reset.tag t).record = none := by simp [Link.tag, Link.reset, Tag.reset]
    rw [hfree] at hx
    cases hx
  waiting _ hr := absurd hr List.not_mem_nil
  numbered _ hv := absurd hv List.not_mem_nil

namespace State.KeepsEvents
variable {p : Prop} {s₀ s : State} (hs : s₀.KeepsEvents p s)
include hs

/-- A change of the event engine. -/
theorem withEngine {e : Engine} (ha : e.asserted = s.engine.asserted)
    (hf : p → s.engine.fatal = true → e.fatal = true) (he : s.engine.Sound → e.Sound) :
    s₀.KeepsEvents p { s with engine := e } :=
  ⟨ha.trans hs.asserted, fun hp h => hf hp (hs.fatal hp h), hs.told,
    fun h₀ => ⟨he (hs.sound h₀).engine, (hs.sound h₀).link⟩⟩

/-! ### Resets -/

theorem channelReset (c : Chan) : s₀.KeepsEvents p (s.channelReset c) := ((hs.discardBeat c).giveUp _).of_same rfl

/-- A Device Reset ends every request, and keeps the interrupt level until it is evaluated (R134, R159, R170). -/
theorem deviceReset (hp : ¬p) (hplace : s.place = []) : s₀.KeepsEvents p s.deviceReset where
  asserted := hs.asserted
  fatal h := absurd h hp
  told := hs.told
  sound h₀ := by
    have hwithin : s.link.Within s.link.deviceReset := by
      refine ⟨fun t x hx => ?_, fun _ r hr => nomatch hr⟩
      rw [Link.deviceReset_tag, Tag.abandon] at hx
      split at hx
      · cases hx
      · exact ⟨x, hx, id⟩
    have hlink := hwithin.sound (hs.sound h₀).link
    rw [hplace] at hlink
    exact ⟨.reset rfl rfl, hlink⟩

theorem softInitAgain : s₀.KeepsEvents p s.softInitAgain := by
  unfold State.softInitAgain
  extract_lets d
  have hactive (x : Device) : s₀.KeepsEvents p { s with device := x } := hs.of_same rfl
  exact (hactive _).forChans fun _ _ hs => hs.of_same rfl

/-- A Soft Init empties the event engine, and keeps the interrupt level until it is evaluated (R134, R135, R171). -/
theorem softInit (hp : ¬p) : s₀.KeepsEvents p s.softInit := by
  unfold State.softInit
  split
  · exact hs.softInitAgain
  · extract_lets released link kept isChannels orphaned reset
    have hreleased : s₀.KeepsEvents p released := foldl (fun _ c hs => hs.releaseGrant c) _ hs
    have hwithin : released.link.Within kept.link := .of_tags rfl fun hw r hr => by
      obtain ⟨q, hq, rfl⟩ := List.mem_map.1 hr
      exact released.sealRecord_eventOfChannel (hw q (List.mem_filter.1 hq).1)
    have hkept : s₀.KeepsEvents p kept := hreleased.within hwithin rfl
    have hreset : s₀.KeepsEvents p reset := (hkept.orphan _).forChans fun _ _ hs => hs.of_same rfl
    exact (hreset.withEngine (e := reset.engine.softInit) rfl (fun h => absurd h hp)
      fun _ => .reset rfl rfl).of_same rfl

/-! ### Channel commands -/

theorem retry (c : Chan) (f : FaultRec) : s₀.KeepsEvents p (s.retry c f) := by
  unfold State.retry
  split
  · exact hs.of_same rfl
  · exact hs.startFetch _ _ _

theorem abandon (c : Chan) (f : FaultRec) : s₀.KeepsEvents p (s.abandon c f) := by
  unfold State.abandon
  split
  · exact hs.complete _ _
  · exact hs.of_same rfl

theorem resume (c : Chan) (cmd : ChanCmd) : s₀.KeepsEvents p (s.resume c cmd) := by
  have hresumed : s₀.KeepsEvents p (s.modCh c Channel.resumed) := hs.of_same rfl
  unfold State.resume
  cases cmd with
  | resumeRetry => exact hresumed.retry _ _
  | resumeSkip | resumeSubstitute => exact hs.of_same rfl
  | resumeAbandon => exact hresumed.abandon _ _
  | enable | disable | reset | park | unpark => exact hresumed

theorem acceptPark (c : Chan) : s₀.KeepsEvents p (s.acceptPark c) := by
  unfold State.acceptPark
  dsimp only
  cases (s.ch c).state with
  | idle | waiting => exact hs.beginSave _ _
  | running =>
    dsimp only
    split
    · exact hs.of_same rfl
    · exact hs
    · exact hs.of_same rfl
  | saving | restoring | expediting => exact hs.of_same rfl
  | disabled | draining | faulted | parked | error => exact hs

theorem accept (c : Chan) (cmd : ChanCmd) : s₀.KeepsEvents p (s.accept c cmd) := by
  have hcleared : s₀.KeepsEvents p (s.modCh c fun h => { h with reason := .none }) := hs.of_same rfl
  unfold State.accept
  cases cmd with
  | enable | disable => exact hs.of_same rfl
  | reset => exact hcleared.channelReset c
  | park => exact hcleared.acceptPark c
  | unpark => exact hcleared.beginRestore _ _
  | resumeRetry | resumeSkip | resumeSubstitute | resumeAbandon => exact hcleared.resume _ _

theorem judge (c : Chan) (cmd : ChanCmd) : s₀.KeepsEvents p (s.judge c cmd) := by
  unfold State.judge
  split
  · exact hs.accept _ _
  · split
    · exact hs.of_same rfl
    · split
      · exact hs.of_same rfl
      · split
        · exact hs.of_same rfl
        · exact hs.accept _ _

theorem command (c : Chan) (cmd : ChanCmd) : s₀.KeepsEvents p (s.command c cmd) := by
  unfold State.command
  split
  · unfold State.judgeNow
    dsimp only
    split
    · exact (hs.judge _ _).of_same rfl
    · exact hs.judge _ _
  · split <;> exact hs.of_same rfl

/-! ### Device Control -/

theorem release : s₀.KeepsEvents p s.release := by
  unfold State.release
  extract_lets d active lists freed judged
  have hactive : s₀.KeepsEvents p active := hs.of_same rfl
  have hfreed : s₀.KeepsEvents p freed := hactive.forChans fun _ _ hs => hs.of_same rfl
  have hjudged : s₀.KeepsEvents p judged := hfreed.forChans fun c _ hs => foldl (fun _ cmd hs => hs.judge c cmd) _ hs
  exact hjudged.forChans fun _ _ hs => hs.of_same rfl

/-- Only a word that asks for a reset ends Fatal (R133, R169). -/
theorem deviceControl {w : Word32} (hw : p → wordResets w = false) (hplace : s.place = []) :
    s₀.KeepsEvents p (s.deviceControl w) := by
  have hresets (h : wordResets w = true) : ¬p := fun hp => Bool.noConfusion ((hw hp).symm.trans h)
  unfold State.deviceControl
  split
  · next h => exact hs.deviceReset (hresets (Bool.or_eq_true_iff.2 (.inr h))) hplace
  · split
    · unfold State.controlEffect
      split
      · next h => exact hs.softInit (hresets (Bool.or_eq_true_iff.2 (.inl h)))
      · extract_lets changes d enabled
        have henabled : s₀.KeepsEvents p enabled := hs.of_same rfl
        split
        · exact henabled.of_same rfl
        · split
          · exact henabled.of_same rfl
          · split
            · split
              · exact henabled.of_same rfl
              · exact henabled.release
            · exact henabled
    · exact hs.of_same rfl

/-! ### Responses -/

theorem leaveEviction (n : Nat) : s₀.KeepsEvents p (s.leaveEviction n) := by
  have hwithin : s.link.Within (s.leaveEviction n).link := .of_tags rfl fun hw r hr => by
    obtain ⟨q, hq, rfl⟩ := List.mem_map.1 hr
    have hcarries : ∀ b : Bool, Req.eventOfChannel (if b then { q with waited := true } else q) = q.eventOfChannel := by
      intro b
      cases b <;> rfl
    exact (hcarries _).trans (hw q hq)
  exact hs.within hwithin rfl

/-- The event that a completion record write carried has had its number since it was issued (R126). -/
theorem writeDone {r : Req} (hr : s₀.EventsSound → r.eventNumbered = true) : s₀.KeepsEvents p (s.writeDone r) := by
  unfold State.writeDone
  split
  · next v hv =>
    split
    · exact hs
    · refine hs.note fun h₀ w hw => ?_
      obtain rfl := PlaceItem.numbered.inj hw
      simpa [Req.eventNumbered, hv] using hr h₀
  · split
    · exact hs
    · exact hs.withEngine rfl (fun _ => id) fun he => ⟨he.next, he.fifo, he.bound⟩
  · exact hs

theorem answered {r : Req} (hr : s₀.EventsSound → r.eventNumbered = true) (resp : Response) :
    s₀.KeepsEvents p (s.answered r resp) := by
  unfold State.answered
  split
  · exact hs.fillData _ _ _
  · exact hs.fillData _ _ _
  · exact hs.of_same rfl
  · exact hs.of_same rfl
  · exact hs.deliverRead _ _
  · exact hs.leaveEviction _
  · exact hs.writeDone hr
  · exact hs

theorem enterFatal : s₀.KeepsEvents p s.enterFatal :=
  (hs.withEngine (e := { s.engine with fatal := true }) rfl (fun _ _ => rfl)
    fun he => ⟨he.next, he.fifo, he.bound⟩).forChans fun _ _ hs => hs.of_same rfl

theorem readFailed (r : Req) (reason : FailReason) : s₀.KeepsEvents p (s.readFailed r reason) := by
  unfold State.readFailed
  split
  · exact hs
  · dsimp only
    split
    · exact hs.of_same rfl
    · exact hs.of_same rfl
    · exact hs.enterError _ _ _ _
    · exact hs

theorem writeFailed (r : Req) (reason : FailReason) : s₀.KeepsEvents p (s.writeFailed r reason) := by
  unfold State.writeFailed
  split
  · exact hs
  · split
    · exact (hs.discardBeat _).of_same rfl
    · exact hs.enterError _ _ _ _
    · exact hs.enterError _ _ _ _
    · exact hs.enterFatal
    · exact hs

theorem failed (r : Req) (reason : FailReason) : s₀.KeepsEvents p (s.failed r reason) := by
  have hline : s₀.KeepsEvents p (if r.isPrefetch then s.prefetchFailed r reason else s.lineFail r reason) := by
    split <;> exact hs.of_same rfl
  unfold State.failed
  cases r.kind with
  | fetchShared | fetchOwned | upgrade => exact hline
  | writeLine =>
    have hdropped (f : Cache → Cache) : s₀.KeepsEvents p (s.modCache f) := hs.of_same rfl
    exact ((hdropped _).leaveEviction _).post _
  | readDirect => exact hs.readFailed _ _
  | writePartial => exact hs.writeFailed _ _

theorem outcome {r : Req} (hr : s₀.EventsSound → r.eventNumbered = true) (resp : Response) :
    s₀.KeepsEvents p (s.outcome r resp) := by
  unfold State.outcome
  split
  · exact hs.failed _ _
  · exact hs.answered hr _

/-- A tag without a record. -/
theorem putTag (t : TagId) {x : Tag} (hx : x.record = none) :
    s₀.KeepsEvents p { s with link := s.link.putTag t x } :=
  hs.within (.putTag (t := t) (x := x) fun _ hy => nomatch hx.symm.trans hy) rfl

theorem late (t : TagId) (gen : Bool) : s₀.KeepsEvents p (s.late t gen) := by
  have hwithin : s.link.Within (s.late t gen).link := by
    unfold State.late
    dsimp only
    split
    · have hstale : s.link.Within (s.link.putTag t { s.link.tag t with stale := false }) :=
        .putTag fun y hy => ⟨y, hy, id⟩
      exact ⟨hstale.tags, hstale.waiting⟩
    · exact .of_tags rfl id
  exact hs.within hwithin rfl

theorem expire (t : TagId) : s₀.KeepsEvents p (s.expire t) := by
  unfold State.expire
  dsimp only
  split
  · split
    · exact hs
    · exact (hs.putTag t rfl).failed _ _
  · exact hs

omit hs in
/-- A response: where no number is still to be given, the request that it ends carries none that is 0. -/
theorem receive (hplace : s.place = []) (t : TagId) (gen : Bool) (resp : Response) :
    s.KeepsEvents p (s.receive t gen resp) := by
  have hs : s.KeepsEvents p s := refl s
  unfold State.receive
  split
  · next r hr =>
    have hnumbered (h₀ : s.EventsSound) : r.eventNumbered = true := by
      unfold Link.matched at hr
      dsimp only at hr
      split at hr
      · obtain ⟨x, hx, rfl⟩ := Option.map_eq_some_iff.1 hr
        simpa [hplace] using h₀.link.tags t x hx
      · cases hr
    have hfreed : s.KeepsEvents p (s.freeOutstanding t) := hs.putTag t rfl
    exact hfreed.outcome hnumbered resp
  · exact hs.late t gen

/-! ### Writes to registers -/

theorem probe (address : Word64) (invalidate : Bool) : s₀.KeepsEvents p (s.probe address invalidate) := by
  unfold State.probe
  extract_lets n after change
  have hchange : s₀.KeepsEvents p (change s) := hs.of_same rfl
  split
  · exact hs.send rfl
  · split
    · exact hchange.send rfl
    · split
      · exact hs.send rfl
      · split
        · exact hs.send rfl
        · split
          · exact hs.send rfl
          · exact hchange.send rfl
          · exact hchange.send rfl
          · exact hchange.send rfl

theorem writeEvent : s₀.KeepsEvents p s.writeEvent := by
  unfold State.writeEvent
  dsimp only
  split
  · exact hs.ask rfl
  · exact hs

theorem writeChan (c : Chan) (r : ChanReg) (v : Word32) : s₀.KeepsEvents p (s.writeChan c r v) := by
  cases r with
  | command =>
    show s₀.KeepsEvents p (s.writeCommand c v)
    unfold State.writeCommand
    split
    · exact hs.command _ _
    · exact hs.of_same rfl
  | ringConsumer | expediteConsumer | linkDepth | faultWord i => exact hs
  | _ => exact hs.of_same rfl

theorem writeEventSize (v : Word32) : s₀.KeepsEvents p (s.writeEventSize v) := by
  unfold State.writeEventSize
  split
  · exact hs.of_same rfl
  · extract_lets resized deadened
    have hresized : s₀.KeepsEvents p resized := by
      refine hs.withEngine ?_ (fun _ h => ?_) fun he => ?_
      all_goals unfold Engine.resize; dsimp only; split
      · rfl
      · rfl
      · exact h
      · exact h
      · exact ⟨he.next, nofun, Nat.zero_le _⟩
      · exact ⟨he.next, he.fifo, he.bound⟩
    split
    · have hwithin : resized.link.Within { deadened with waiting := deadened.waiting.filter fun r => r.owner != .engine } :=
        .mapOutstanding (fun r => r.deaden_eventNumbered.trans) fun hw r hr => by
          rw [(Link.mapOutstanding_rest _ _).1] at hr
          exact hw r (List.mem_filter.1 hr).1
      exact hresized.within hwithin rfl
    · exact hresized

theorem writeReg {r : Reg} {v : Word32} (hw : p → r = .deviceControl → wordResets v = false) (hplace : s.place = []) :
    s₀.KeepsEvents p (s.writeReg r v) := by
  cases r with
  | deviceControl => exact hs.deviceControl (fun hp => hw hp rfl) hplace
  | cacheControl =>
    show s₀.KeepsEvents p (s.writeCacheControl v)
    unfold State.writeCacheControl
    split
    · split <;> exact hs.of_same rfl
    · exact hs.of_same rfl
  | eventBase half =>
    show s₀.KeepsEvents p (s.writeEventBase half v)
    unfold State.writeEventBase
    split
    · exact hs.of_same rfl
    · exact hs.withEngine rfl (fun _ => id) fun he => ⟨he.next, he.fifo, he.bound⟩
  | eventSize => exact hs.writeEventSize v
  | eventHead =>
    show s₀.KeepsEvents p (s.writeEventHead v)
    unfold State.writeEventHead
    split
    · exact hs.withEngine rfl (fun _ => id) fun he => ⟨he.next, he.fifo, he.bound⟩
    · exact hs.of_same rfl
  | lostEvents => exact hs.withEngine rfl (fun _ => id) fun he => ⟨he.next, he.fifo, he.bound⟩
  | lateCount => exact hs.within (l := { s.link with lateCount := 0 }) (.of_tags rfl id) rfl
  | responseTimeout => exact hs.within (l := { s.link with responseTimeout := v.toNat % 65536 }) (.of_tags rfl id) rfl
  | chan c r => exact hs.writeChan c r v
  | deviceStatus | dozeDelay | lostWriteBacks | prefetchFails => exact hs.of_same rfl
  | id | capability | resetCause | acwMask | eventTail => exact hs

/-! ### Every command -/

omit hs in
theorem offer (s : State) {r : Option Reg} {v : Word32} (hw : p → r = some .deviceControl → wordResets v = false) :
    s.begin.KeepsEvents p (s.offer r v) := by
  unfold State.offer
  extract_lets woken device written
  have hwoken : s.begin.KeepsEvents p woken := (refl s.begin).of_same rfl
  have hwritten : s.begin.KeepsEvents p written := by
    dsimp only [written]
    split
    · exact hwoken.of_same rfl
    · cases r with
      | none => exact hwoken
      | some r => exact hwoken.writeReg (fun hp h => hw hp (congrArg some h)) rfl
  exact hwritten.send rfl

omit hs in
/-- The counts of a tick change no request (R157). -/
theorem counted (s : State) : s.begin.KeepsEvents p s.counted := by
  have hwithin : s.begin.link.Within (s.begin.link.ticked allTags) := by
    refine ⟨fun t x' hx' => ?_, fun hw r hr => hw r ((s.link.ticked_rest allTags).1 ▸ hr)⟩
    rw [Link.ticked_tag _ nodup_allTags, if_pos (mem_allTags t)] at hx'
    have hreq := (s.link.tag t).ticked_req
    rw [show (s.link.tag t).ticked.record = some x' from hx', Option.map_some] at hreq
    obtain ⟨x, hx, hxreq⟩ := Option.map_eq_some_iff.1 hreq.symm
    exact ⟨x, hx, fun h => hxreq ▸ h⟩
  refine (refl s.begin).within hwithin ?_
  rw [State.counted, State.tickDoze_eq, State.tickTags_eq _ _ nodup_allTags]
  rfl

end State.KeepsEvents

variable {p : Prop} {s t u : State}

/-- The step ends, after the part has acted in one way or another from `s` on, in `t`. -/
def State.ClosesAs (p : Prop) (s t : State) : Prop := ∃ u, s.begin.KeepsEvents p u ∧ t = u.close

theorem State.KeepsEvents.closes (h : s.begin.KeepsEvents p u) : s.ClosesAs p u.close := ⟨u, h, rfl⟩

theorem State.KeepsEvents.settleCloses (h : s.begin.KeepsEvents p u) : s.ClosesAs p u.settleClose := ⟨_, h.settle, rfl⟩

/-- Every command but a power-on reset ends as `State.close` says, once the part has acted; where `p` asks for it, it is
one that cannot reset the device. -/
theorem exec_closesAs (i : Instr) (hi : p → i.mayResetDevice = false) (h : exec i s = .next t) :
    (i = .powerOnReset ∧ t = s.powerOn) ∨ s.ClosesAs p t := by
  have hbegin : s.begin.KeepsEvents p s.begin := .refl _
  have hend {u : State} (hu : s.ClosesAs p u) (he : exec i s = .next u) :
      (i = .powerOnReset ∧ t = s.powerOn) ∨ s.ClosesAs p t := .inr (Host.Outcome.next.inj (he.symm.trans h) ▸ hu)
  have hcontrol (w : Word32) (hw : p → wordResets w = false) : s.ClosesAs p (s.regWriteSettle .deviceControl w) :=
    (State.KeepsEvents.offer s fun hp _ => hw hp).settleCloses
  have hother (r : Reg) (v : Word32) (hr : r ≠ .deviceControl) : s.begin.KeepsEvents p (s.offer (some r) v) :=
    .offer s fun _ hrc => absurd (Option.some.inj hrc) hr
  have hplain (r : Reg) (v : Word32) (hr : r ≠ .deviceControl) : s.ClosesAs p (s.regWrite r v) := (hother r v hr).closes
  have hplainSettle (r : Reg) (v : Word32) (hr : r ≠ .deviceControl) : s.ClosesAs p (s.regWriteSettle r v) :=
    (hother r v hr).settleCloses
  cases i with
  | powerOnReset => exact .inl ⟨rfl, (Host.Outcome.next.inj h).symm⟩
  | deviceReset | softInit => exact hend (hcontrol _ fun hp => Bool.noConfusion (hi hp)) rfl
  | quiesce word =>
    exact hend (hcontrol _ fun hp => (wordResets_withBit (k := 0) (by decide) (by decide) word).trans (hi hp)) rfl
  | quiesceRelease word => exact hend (hcontrol _ fun hp => (wordResets_clearBit word).trans (hi hp)) rfl
  | dormant word =>
    exact hend (hcontrol _ fun hp => (wordResets_withBit (k := 4) (by decide) (by decide) word).trans (hi hp)) rfl
  | wake word =>
    exact hend (hcontrol _ fun hp => (wordResets_withBit (k := 5) (by decide) (by decide) word).trans (hi hp)) rfl
  | wakeComplete =>
    refine hend ?_ rfl
    split
    · have hquiesced : s.begin.KeepsEvents p (s.begin.setPower .quiesced) := hbegin.of_same rfl
      exact (hquiesced.post _).settleCloses
    · exact hbegin.closes
  | interruptEnable on =>
    exact hend (State.KeepsEvents.offer s fun _ _ => wordResets_flags _ _).closes rfl
  | flushAndInvalidate | enable | disable | reset | park | unpark | resumeRetry | resumeSkip | resumeSubstitute
  | resumeAbandon | ringProducer | expediteProducer | eventQueueSize => exact hend (hplainSettle _ _ (by simp)) rfl
  | siblingPrefetchEnable | ringSize | expediteSize | ringBase | expediteBase | compact | csbAddress | apertureBase
  | apertureLimit | apertureControl | acw | eventQueueBase | eventHead | lostEvents | lateResponseCount
  | lostWriteBackCount | siblingPrefetchFailCount | deviceStatus | channelStatus =>
    exact hend (hplain _ _ (by simp)) rfl
  | partialRegisterWrite =>
    have hwoken (d : Device) : s.begin.KeepsEvents p { s.begin with device := d } := hbegin.of_same rfl
    exact hend (State.KeepsEvents.closes (u := s.offerPartial) ((hwoken _).send rfl)) rfl
  | registerWrite offset value =>
    refine hend (State.KeepsEvents.offer s fun hp hr => ?_).settleCloses rfl
    simpa [Instr.mayResetDevice, Reg.offset_of_deviceControl hr] using hi hp
  | probeShare | probeInvalidate => exact hend (hbegin.probe _ _).settleCloses rfl
  | beatGrant => exact hend hbegin.grantBeat.settleCloses rfl
  | fetchSharedData | siblingPrefetchData | fetchOwnedData | upgradeDone | upgradeData | readDirectData
  | descriptorHalfData | csbReadData | bypassWriteDone | completionRecordDone | csbWriteDone | eventRecordDone
  | writelineDone | fetchFail | siblingPrefetchFail | descriptorFetchFail | csbReadFail | bypassWriteFail
  | completionRecordFail | csbWriteFail | eventRecordFail | writelineFail | lateResponse =>
    exact hend (State.KeepsEvents.receive s.begin_place _ _ _).settleCloses rfl
  | responseTimeout tag => exact hend (hbegin.expire tag).settleCloses rfl
  | doze =>
    refine hend ?_ rfl
    split
    · have hdozed : s.begin.KeepsEvents p (s.begin.setPower .doze) := hbegin.of_same rfl
      exact hdozed.closes
    · exact hbegin.closes
  | sweepSet => exact hend hbegin.sweepNext.settleCloses rfl
  | eventRecordWrite => exact hend hbegin.writeEvent.settleCloses rfl

/-- Every step but a power-on reset ends as `State.close` says. -/
theorem step_closesAs (hi : p → ∀ i, s.pending.head? = some i → i.mayResetDevice = false) (h : step s = .next t) :
    ∃ rest, (s.pending.head? = some .powerOnReset ∧ t = State.powerOn { s with pending := rest }) ∨
      State.ClosesAs p { s with pending := rest } t := by
  cases hp : s.pending with
  | nil =>
    rw [step_of_nil hp] at h
    exact ⟨s.pending, .inr (Host.Outcome.next.inj h ▸ (State.KeepsEvents.counted s).settleCloses)⟩
  | cons i rest =>
    rw [step_of_cons hp] at h
    refine ⟨rest, (exec_closesAs i (fun h => hi h i (by rw [hp]; rfl)) h).imp_left ?_⟩
    rintro ⟨rfl, ht⟩
    exact ⟨rfl, ht⟩

/-- Settles O6: the numbers are given at the end of each place from a counter that skips 0, and the FIFO takes an event
only where it has a place for it. -/
theorem stepKeepsEventEngine : Obligations.StepKeepsEventEngine := by
  intro s t hs h
  obtain ⟨rest, ⟨-, rfl⟩ | ⟨u, hu, rfl⟩⟩ := step_closesAs (p := False) nofun h
  · exact (State.eventsSound_iff rfl).1 ⟨.reset rfl rfl, .reset⟩
  · have hbegin : ({ s with pending := rest } : State).begin.EventsSound := (State.eventsSound_iff rfl).2 hs
    exact (hu.sound hbegin).close

/-- Settles O10: the level is evaluated as the command ends, and nothing before that tells the host of it. -/
theorem interruptLevelFollowsState : Obligations.InterruptLevelFollowsState := by
  intro s t h
  obtain ⟨rest, ⟨hfront, rfl⟩ | ⟨u, hu, rfl⟩⟩ := step_closesAs (p := False) nofun h
  · exact ⟨rfl, fun hne => absurd hfront hne⟩
  · refine ⟨u.close_asserted, fun _ => ?_⟩
    have htold : u.told = [] := hu.told
    have hlevel : u.close.engine.asserted = u.interruptLevel := by rw [State.close_engine]
    have hasserted : u.engine.asserted = s.engine.asserted := hu.asserted
    calc u.close.told = u.told ++ interruptMessages u.engine.asserted u.interruptLevel := u.close_told
      _ = interruptMessages s.engine.asserted u.close.engine.asserted := by
        rw [htold, hasserted, hlevel, List.nil_append]

/-- Settles O11: every change of the event engine but those of the three resets keeps Fatal. -/
theorem fatalEndsOnlyByReset : Obligations.FatalEndsOnlyByReset := by
  intro s t hf
  have hstays {s : State} (hf : s.engine.fatal = true) (h : s.ClosesAs True t) : t.engine.fatal = true := by
    obtain ⟨u, hu, rfl⟩ := h
    rw [State.close_fatal]
    exact hu.fatal trivial hf
  constructor
  · intro i hi h
    obtain ⟨rfl, -⟩ | hcloses := exec_closesAs (p := True) i (fun _ => hi) h
    · exact Bool.noConfusion hi
    · exact hstays hf hcloses
  · intro hi h
    obtain ⟨rest, ⟨hfront, -⟩ | hcloses⟩ := step_closesAs (p := True) (fun _ => hi) h
    · exact Bool.noConfusion (hi _ hfront)
    · exact hstays (s := { s with pending := rest }) hf hcloses

end Sys2Proof.Machine
end

section
/-! PROOF. Writes to the registers of the event queue, the counters and the status words (R129 to R131, R140, R143, R157,
R177, R179), to Interrupt Enable and Cache Control (R134, R140, R146, R176), and the two resets (R135, R159, R170).  Each is
a RegWrite, so what is left to say is what its register does. -/
namespace Sys2Proof.Machine
variable {s u : State} {r : Reg} {v : Word32}

/-- A RegWrite in a power state in which every register responds, and which leaves the part nothing to do. -/
theorem State.regWrite_awake (ha : s.asleep = false)
    (hw : (State.writeReg { s.fresh with device := s.device.touched } r v).send .regDone = u) :
    s.regWrite r v = u.close := by
  rw [State.regWrite, State.offer_awake ha, State.begin_wakeDoze, hw]

/-- A RegWrite in a power state in which every register responds, and after which the part may go on. -/
theorem State.regWriteSettle_awake (ha : s.asleep = false)
    (hw : (State.writeReg { s.fresh with device := s.device.touched } r v).send .regDone = u) :
    s.regWriteSettle r v = u.settleClose := by
  rw [State.regWriteSettle, State.offer_awake ha, State.begin_wakeDoze, hw]

/-! ### Status words and counters -/

/-- Settles O21: each row writes one register, whose write-one-to-clear bits or counter are all it changes. -/
theorem statusAndCounterWrites : Obligations.StatusAndCounterWrites := by
  intro s c v ha h d u
  refine ⟨?_, ?_, ?_, ?_, ?_, ?_⟩
  · rw [exec_channelStatus, execChannelStatus,
      State.regWrite_modCh (f := (·.writeStatus v)) ha (fun _ => rfl) (Eq.refl (h.writeStatus v))]
    rfl
  · rw [exec_deviceStatus, execDeviceStatus, State.regWrite_awake ha rfl]; rfl
  · rw [exec_lostEvents, execLostEvents, State.regWrite_awake ha rfl]; rfl
  · rw [exec_lateResponseCount, execLateResponseCount, State.regWrite_awake ha rfl]; rfl
  · rw [exec_lostWriteBackCount, execLostWriteBackCount, State.regWrite_awake ha rfl]; rfl
  · rw [exec_siblingPrefetchFailCount, execSiblingPrefetchFailCount, State.regWrite_awake ha rfl]; rfl

/-! ### The event queue -/

/-- A size other than 0 is accepted while the queue is disabled, if it is one of the seven sizes (R129). -/
theorem Engine.sizeAccepted_iff (e : Engine) (hv : v ≠ 0) :
    e.sizeAccepted v = true ↔ e.size = 0 ∧ v.toNat ∈ [64, 128, 256, 512, 1024, 2048, 4096] := by
  simp only [Engine.sizeAccepted, Bool.or_eq_true, beq_iff_eq, hv, false_or, Bool.and_eq_true, List.contains_iff_mem]

/-- The engine after a size other than 0 (R129). -/
theorem Engine.resize_of_ne (e : Engine) (hv : v ≠ 0) :
    e.resize v = { e with size := v.toNat, tail := 0, head := 0 } := by
  have hv' : (v == 0) = false := by simpa using hv
  simp only [Engine.resize, hv', Bool.false_eq_true, if_false]

/-- A write to Event Queue Size of a value other than 0 (R129). -/
theorem State.writeEventSize_of_ne (s : State) (hv : v ≠ 0) : s.writeEventSize v =
    if s.engine.size = 0 ∧ v.toNat ∈ [64, 128, 256, 512, 1024, 2048, 4096] then
      { s with engine := { s.engine with size := v.toNat, tail := 0, head := 0 } }
    else s.rejectEventConfig := by
  have hv' : (v == 0) = false := by simpa using hv
  unfold State.writeEventSize
  by_cases h : s.engine.size = 0 ∧ v.toNat ∈ [64, 128, 256, 512, 1024, 2048, 4096]
  · simp only [(s.engine.sizeAccepted_iff hv).2 h, if_pos h, hv', s.engine.resize_of_ne hv, Bool.not_true,
      Bool.false_eq_true, if_false]
  · have hrefused : s.engine.sizeAccepted v = false := by
      rw [Bool.eq_false_iff]
      exact fun ha => h ((s.engine.sizeAccepted_iff hv).1 ha)
    simp only [hrefused, if_neg h, Bool.not_false, if_true]

/-- A write to a word of Event Queue Base (R129). -/
theorem State.writeEventBase_eq (s : State) (half : Half) (v : Word32) : s.writeEventBase half v =
    if s.engine.size ≠ 0 ∨ (half = .low ∧ v.toNat % 4096 ≠ 0) then s.rejectEventConfig
    else { s with engine := { s.engine with base := putHalf s.engine.base half v } } := by
  simp only [State.writeEventBase, Bool.or_eq_true, Bool.and_eq_true, bne_iff_ne, beq_iff_eq, ne_eq, low_bits_eq_zero_iff]

/-- Settles O23: a size is judged by `Engine.sizeAccepted_iff`, a base word by the state of the queue and its low bits. -/
theorem eventQueueWrites : Obligations.EventQueueWrites := by
  intro s half v ha e rejected
  constructor
  · intro hv
    rw [exec_eventQueueSize, execEventQueueSize]
    refine congrArg Host.Outcome.next (State.regWriteSettle_awake ha ?_)
    refine (congrArg (State.send · .regDone) (State.writeEventSize_of_ne _ hv)).trans ?_
    exact apply_ite (State.send · .regDone) _ _ _
  · rw [exec_eventQueueBase, execEventQueueBase]
    refine congrArg Host.Outcome.next (State.regWrite_awake ha ?_)
    refine (congrArg (State.send · .regDone) (State.writeEventBase_eq _ half v)).trans ?_
    cases half <;> exact apply_ite (State.send · .regDone) _ _ _

/-- An event record write in flight goes on without effect on the indices (R129). -/
theorem Req.deaden_eq (r : Req) :
    r.deaden = { r with purpose := if r.purpose = .event true then .event false else r.purpose } := by
  unfold Req.deaden
  by_cases hp : r.purpose = .event true
  · simp only [hp, beq_self_eq_true, if_true]
  · simp only [beq_iff_eq, hp, if_false]

/-- The event queue disabled (R129; log 55). -/
def State.queueDisabled (s : State) : State :=
  { s with
    engine := { s.engine with
      size := 0, tail := 0, head := 0, lost := satAdd s.engine.lost s.engine.fifo.length, fifo := [], lossMark := none }
    link := { s.link.mapOutstanding Req.deaden with
      waiting := (s.link.mapOutstanding Req.deaden).waiting.filter fun r => r.owner != .engine } }

/-- A write of 0 to Event Queue Size (R129). -/
theorem State.writeEventSize_zero (s : State) : s.writeEventSize 0 = s.queueDisabled := by
  have haccepted : s.engine.sizeAccepted 0 = true := by simp [Engine.sizeAccepted]
  simp only [State.writeEventSize, haccepted, Bool.not_true, Bool.false_eq_true, if_false, beq_self_eq_true, if_true,
    Engine.resize, State.queueDisabled]
  rfl

/-- Whatever the event engine had waiting for a tag is withdrawn (log 55); a tag, Response Timeout and the count stay. -/
theorem State.queueDisabled_link (s : State) :
    s.queueDisabled.link.waiting = s.link.waiting.filter (fun r => r.owner != .engine) ∧
      s.queueDisabled.link.responseTimeout = s.link.responseTimeout ∧
      s.queueDisabled.link.lateCount = s.link.lateCount := by
  obtain ⟨hwaiting, htimeout, hlate⟩ := Link.mapOutstanding_rest s.link Req.deaden
  simp only [State.queueDisabled, hwaiting, htimeout, hlate, and_self]

theorem State.queueDisabled_tag (s : State) (t : TagId) : s.queueDisabled.link.tag t =
    { s.link.tag t with record := (s.link.tag t).record.map fun r => { r with req := r.req.deaden } } := by
  have htag (l : Link) (ws : List Req) : ({ l with waiting := ws } : Link).tag t = l.tag t := rfl
  rw [State.queueDisabled, htag, Link.mapOutstanding_tag]

/-- Settles O24: the state after the write is `State.queueDisabled` of the acknowledged one. -/
theorem eventQueueDisable : Obligations.EventQueueDisable := by
  intro s ha
  obtain ⟨hwaiting, htimeout, hlate⟩ := s.acknowledged.queueDisabled_link
  refine ⟨s.acknowledged.queueDisabled, ?_, rfl, hwaiting, fun t => ?_, htimeout, hlate, rfl⟩
  · rw [exec_eventQueueSize, execEventQueueSize]
    refine congrArg Host.Outcome.next (State.regWriteSettle_awake ha ?_)
    refine (congrArg (State.send · .regDone) (State.writeEventSize_zero _)).trans ?_
    simp only [State.queueDisabled, State.send]
    rfl
  · refine (State.queueDisabled_tag s.acknowledged t).trans ?_
    simp only [Req.deaden_eq]
    rfl

/-- A write to Event Head is accepted (R130). -/
theorem Engine.headAccepted_iff (e : Engine) (v : Word32) : e.headAccepted v = true ↔
    v.toNat < e.size ∧ ((v.toNat : Int) - e.head) % e.size ≤ ((e.tail : Int) - e.head) % e.size := by
  simp only [Engine.headAccepted, Bool.and_eq_true, decide_eq_true_eq]
  refine and_congr_right fun hv => ?_
  have hn : e.size ≠ 0 := by omega
  rw [← ringDistance_cast hn, ← ringDistance_cast hn, Nat.cast_le]

/-- A write to Event Head (R130). -/
theorem State.writeEventHead_eq (s : State) (v : Word32) : s.writeEventHead v =
    if v.toNat < s.engine.size ∧
        ((v.toNat : Int) - s.engine.head) % s.engine.size ≤ ((s.engine.tail : Int) - s.engine.head) % s.engine.size then
      { s with engine := { s.engine with head := v.toNat } }
    else { s with device := { s.device with eventHeadRejected := true } } := by
  simp only [State.writeEventHead, Engine.headAccepted_iff]

/-- Settles O25: the two ring distances of the model are the two residues of R130. -/
theorem eventHeadWrites : Obligations.EventHeadWrites := by
  intro s v ha e
  rw [exec_eventHead, execEventHead]
  refine congrArg Host.Outcome.next (State.regWrite_awake ha ?_)
  refine (congrArg (State.send · .regDone) (State.writeEventHead_eq _ v)).trans ?_
  exact apply_ite (State.send · .regDone) _ _ _

/-! ### Interrupt Enable and Cache Control -/

/-- The word of INTERRUPT_ENABLE keeps Quiesce, writes Interrupt Enable, and sets no action bit (log 31). -/
theorem interruptWord_bits (q on : Bool) :
    let w := flagAt q 0 ||| flagAt on 1
    dcQuiesce w = q ∧ dcIrqEnable w = on ∧ dcDormant w = false ∧ dcWake w = false ∧ dcSoftInit w = false ∧
      dcDeviceReset w = false := by
  cases q <;> cases on <;> decide

/-- A Device Control write that keeps Quiesce and sets no action bit is accepted in every power state (R160). -/
theorem State.deviceControl_interruptEnable (s : State) (on : Bool) :
    s.deviceControl (flagAt s.device.quiesce 0 ||| flagAt on 1) =
      { s with device := { s.device with irqEnable := on } } := by
  obtain ⟨hquiesce, hirq, hdormant, hwake, hsoft, hreset⟩ := interruptWord_bits s.device.quiesce on
  simp [State.deviceControl, State.controlAccepted, State.controlEffect, hquiesce, hirq, hdormant, hwake, hsoft, hreset]

/-- The words of the two rows of Cache Control (log 31). -/
theorem cacheWord_bits (on : Bool) : (flagAt on 0)[0] = on ∧ (flagAt on 0)[1] = false ∧
    (withBit (flagAt on 0) 1)[0] = on ∧ (withBit (flagAt on 0) 1)[1] = true := by
  cases on <;> decide

/-- An accepted Flush and Invalidate queues one request, unless one is queued or begun (R146; log 21). -/
theorem Cache.flushCommand_eq (k : Cache) : k.flushCommand = { k with
    flushDone := false
    queue := if (∃ q ∈ k.queue, q.kind = .command) ∨ k.commandSweeps ≠ [] then k.queue
      else k.queue ++ [{ kind := .command, fresh := true }] } := by
  have hpending : k.flushPending = true ↔ (∃ q ∈ k.queue, q.kind = .command) ∨ k.commandSweeps ≠ [] := by
    simp [Cache.flushPending]
  unfold Cache.flushCommand
  by_cases h : (∃ q ∈ k.queue, q.kind = .command) ∨ k.commandSweeps ≠ []
  · simp only [hpending.2 h, if_pos h, if_true]
  · have hidle : k.flushPending = false := by
      rw [Bool.eq_false_iff]
      exact fun hp => h (hpending.1 hp)
    simp only [hidle, if_neg h, Bool.false_eq_true, if_false, Cache.request, enterQueue_command]

/-- A word with bit 1 clear, written to Cache Control (R140, R176). -/
theorem State.writeCacheControl_plain (s : State) {on : Bool} (hv : v[1] = false) (hon : v[0] = on) :
    s.writeCacheControl v = { s with cache := { s.cache with prefetchOn := on } } := by
  simp only [State.writeCacheControl, hv, hon, Bool.false_eq_true, if_false]
  rfl

/-- A word with bit 1 set, written to Cache Control (R146, R176). -/
theorem State.writeCacheControl_flush (s : State) {on : Bool} (hv : v[1] = true) (hon : v[0] = on) :
    s.writeCacheControl v =
      if s.device.power = .active ∨ s.device.power = .quiesced then
        { s with cache := { s.cache with
          flushDone := false, prefetchOn := on
          queue := if (∃ q ∈ s.cache.queue, q.kind = .command) ∨ s.cache.commandSweeps ≠ [] then s.cache.queue
            else s.cache.queue ++ [{ kind := .command, fresh := true }] } }
      else { s with device := { s.device with powerRejected := true } } := by
  simp only [State.writeCacheControl, hv, hon, if_true, Cache.flushCommand_eq, State.modCache]
  cases s.device.power <;> simp

/-- A RegWrite ends Doze before it is judged (R161). -/
theorem Device.touched_power_iff (d : Device) : (d.touched.power = .active ∨ d.touched.power = .quiesced) ↔
    d.power = .active ∨ d.power = .doze ∨ d.power = .quiesced := by
  unfold Device.touched
  cases d.power <;> simp

/-- Settles O28: the words of the three rows (log 31) name the bits that the two registers act on. -/
theorem enablesAndFlush : Obligations.EnablesAndFlush := by
  intro s on k
  obtain ⟨hon, hplain, hflushOn, hflush⟩ := cacheWord_bits on
  refine ⟨?_, fun ha => ⟨?_, ?_⟩⟩
  · rw [exec_interruptEnable, execInterruptEnable, State.regWrite, State.offer_deviceControl, State.begin_wakeDoze]
    refine congrArg Host.Outcome.next (congrArg State.close ?_)
    exact congrArg (State.send · .regDone) (State.deviceControl_interruptEnable { s.fresh with device := s.device.touched } on)
  · rw [exec_siblingPrefetchEnable, execSiblingPrefetchEnable]
    generalize flagAt on 0 = w at hon hplain
    refine congrArg Host.Outcome.next (State.regWrite_awake ha ?_)
    exact congrArg (State.send · .regDone) (State.writeCacheControl_plain _ hplain hon)
  · rw [exec_flushAndInvalidate, execFlushAndInvalidate]
    generalize withBit (flagAt on 0) 1 = w at hflushOn hflush
    refine congrArg Host.Outcome.next (State.regWriteSettle_awake ha ?_)
    refine (congrArg (State.send · .regDone) (State.writeCacheControl_flush _ hflush hflushOn)).trans ?_
    simp only [Device.touched_power_iff]
    exact apply_ite (State.send · .regDone) _ _ _

/-! ### Resets -/

/-- Settles O34: Device Reset is the only effect of a Device Control word with bit 7 set. -/
theorem deviceAndPowerOnReset : Obligations.DeviceAndPowerOnReset := by
  intro s w
  have hreset : dcDeviceReset (withBit w 7) = true := (getElem_withBit w 7 7).trans (by simp)
  have hoffer : s.offer (some .deviceControl) (withBit w 7) = s.begin.wakeDoze.deviceReset.send .regDone := by
    rw [State.offer_deviceControl, State.deviceControl, if_pos hreset]
  refine ⟨⟨s.begin.wakeDoze.deviceReset.send .regDone, ?_, fun t => ?_, rfl⟩, rfl⟩
  · rw [exec_deviceReset, execDeviceReset, State.regWriteSettle, hoffer]
  · refine (s.link.deviceReset_tag t).trans ?_
    simp only [Tag.abandon, beq_iff_eq, Tag.expire_eq]

end Sys2Proof.Machine
end

section
/-! PROOF. The record write of the event engine (R129 to R131; logs 7 and 56), an event that enters the FIFO (R131 to
R133), and the end of a place: the order of its items and what each of them takes (R126, R128; log 6). -/
namespace Sys2Proof.Machine

/-! ### The event record write -/

/-- Where R130 and R131 allow the event engine its next record write, outside a draining Soft Init (R171). -/
def State.mayWriteEvent (s : State) : Prop :=
  (s.engine.fifo ≠ [] ∨ s.engine.lossMark ≠ none) ∧ s.engine.size ≠ 0 ∧
    (s.engine.tail + 1) % s.engine.size ≠ s.engine.head ∧ s.engine.fatal = false ∧ s.eventOutstanding = false ∧
    s.device.softInit = false

/-- The request of an event record write: the 32 bytes of the entry that Event Tail names (R129; log 56). -/
def Engine.recordRequest (e : Engine) : Req :=
  Req.write ((e.base.toNat + 32 * e.tail) % 2 ^ 64) (byteMask ((e.base.toNat + 32 * e.tail) % 2 ^ 64 % 64) 32) 0 .engine
    (.event true)

theorem State.writeEvent_of_may {s : State} (h : s.mayWriteEvent) : s.writeEvent = s.ask s.engine.recordRequest := by
  obtain ⟨hsome, hsize, hslot, hfatal, hout, hsoft⟩ := h
  have hsome' : (!s.engine.fifo.isEmpty || s.engine.lossMark.isSome) = true := by
    simpa [Option.isSome_iff_ne_none] using hsome
  simp only [State.writeEvent, hsome', bne_iff_ne.2 hsize, bne_iff_ne.2 hslot, hfatal, hout, hsoft, Bool.not_false,
    Bool.and_self, if_true]
  rfl

theorem State.writeEvent_of_not_may {s : State} (h : ¬ s.mayWriteEvent) : s.writeEvent = s := by
  unfold State.writeEvent
  refine if_neg fun hall => h ?_
  simpa [State.mayWriteEvent, Option.isSome_iff_ne_none, and_assoc] using hall

/-- Settles O46: `State.mayWriteEvent` is the condition under which the model asks for the write. -/
theorem eventRecordWrite : Obligations.EventRecordWrite := by
  intro s e address
  rw [exec_eventRecordWrite, execEventRecordWrite]
  refine congrArg Host.Outcome.next (congrArg State.settleClose ?_)
  by_cases h : s.mayWriteEvent
  · exact (State.writeEvent_of_may (s := s.fresh) h).trans (if_pos h).symm
  · exact (State.writeEvent_of_not_may (s := s.fresh) h).trans (if_neg h).symm

/-! ### An event enters the FIFO -/

/-- An event enters the FIFO, or is lost (R131, R132, R133). -/
theorem Engine.accept_eq (e : Engine) (v : Event) : e.accept v =
    if e.fatal = true ∨ e.size = 0 then { e with lost := min (e.lost + 1) 65535 }
    else match e.lossMark with
      | some n => { e with lost := min (e.lost + 1) 65535, lossMark := some (min (n + 1) 65535) }
      | none =>
        if e.fifo.length < 8 then { e with fifo := e.fifo ++ [v] }
        else { e with lost := min (e.lost + 1) 65535, lossMark := some 1 } := by
  simp only [Engine.accept, Bool.or_eq_true, beq_iff_eq]
  rfl

/-! ### The order of a place -/

/-- The seven ranks of R128 in their order: what draws on the event engine there, each in the order in which it arose. -/
theorem inPlaceOrder_eq (items : List PlaceItem) : inPlaceOrder items =
    items.filter (·.rank == 0) ++ items.filter (·.rank == 1) ++ items.filter (·.rank == 2) ++ items.filter (·.rank == 3) ++
      items.filter (·.rank == 4) ++ items.filter (·.rank == 5) ++ items.filter (·.rank == 6) := by
  have hranks : List.range 7 = [0, 1, 2, 3, 4, 5, 6] := rfl
  simp only [inPlaceOrder, hranks, List.flatMap_cons, List.flatMap_nil, List.append_nil, List.append_assoc]

theorem PlaceItem.chan_rank_ne (c : Chan) {n : Nat} (hn : 4 ≤ n) : (c.val == n) = false :=
  beq_eq_false_iff_ne.2 (c.isLt.trans_le hn).ne

theorem PlaceItem.chan_rank_beq (c d : Chan) : (d.val == c.val) = (some d == some c) := by
  rw [Bool.eq_iff_iff, beq_iff_eq, beq_iff_eq, Option.some_inj, Fin.ext_iff]

/-- What a channel posts or writes at a place has the number of the channel as its rank (R128). -/
theorem PlaceItem.rank_eq_chan (x : PlaceItem) (c : Chan) : (x.rank == c.val) = (match x with
    | .post v | .numbered v => v.channel == some c
    | .write _ d => d == some c) := by
  have hbeyond (n : Nat) (hn : 4 ≤ n) : (n == c.val) = (none == some c) :=
    BEq.comm.trans (chan_rank_ne c hn)
  cases x with
  | post v | numbered v =>
    simp only [PlaceItem.rank]
    cases v.channel with
    | some d => exact chan_rank_beq c d
    | none => exact hbeyond (if v.kind == .deviceError then 5 else 4) (by split <;> decide)
  | write t d =>
    cases d with
    | some d => exact chan_rank_beq c d
    | none => exact hbeyond 6 (by decide)

/-- From rank 4 on, no item of a channel counts (R128). -/
theorem PlaceItem.rank_beq_of_ge (x : PlaceItem) {n : Nat} (hn : 4 ≤ n) : (x.rank == n) = (match x with
    | .post v | .numbered v => v.channel.isNone && (if v.kind == .deviceError then 5 else 4) == n
    | .write _ d => d.isNone && 6 == n) := by
  cases x with
  | post v | numbered v =>
    simp only [PlaceItem.rank]
    cases v.channel with
    | some c => exact chan_rank_ne c hn
    | none => rfl
  | write t d =>
    cases d with
    | some c => exact chan_rank_ne c hn
    | none => rfl

/-- What the power controller posts has rank 4 (R128). -/
theorem PlaceItem.rank_eq_power (x : PlaceItem) : (x.rank == 4) = (match x with
    | .post v | .numbered v => v.channel.isNone && v.kind != .deviceError
    | .write _ _ => false) := by
  rw [x.rank_beq_of_ge (by decide)]
  cases x with
  | post v | numbered v => exact congrArg (v.channel.isNone && ·) (by cases v.kind <;> rfl)
  | write t d => exact Bool.and_false _

/-- What the operand cache posts has rank 5 (R128). -/
theorem PlaceItem.rank_eq_cache (x : PlaceItem) : (x.rank == 5) = (match x with
    | .post v | .numbered v => v.channel.isNone && v.kind == .deviceError
    | .write _ _ => false) := by
  rw [x.rank_beq_of_ge (by decide)]
  cases x with
  | post v | numbered v => exact congrArg (v.channel.isNone && ·) (by cases v.kind <;> rfl)
  | write t d => exact Bool.and_false _

/-- A record write of the event engine has rank 6 (R128). -/
theorem PlaceItem.rank_eq_engine (x : PlaceItem) : (x.rank == 6) = (match x with
    | .post _ | .numbered _ => false
    | .write _ d => d.isNone) := by
  rw [x.rank_beq_of_ge (by decide)]
  cases x with
  | post v | numbered v =>
    refine (congrArg (v.channel.isNone && ·) ?_).trans (Bool.and_false _)
    cases v.kind <;> rfl
  | write t d => exact Bool.and_true _

/-! ### One item of a place -/

/-- A request edited in its tag's record and in the message that was sent with it. -/
theorem State.editRequest_eq (s : State) (t : TagId) (f : Req → Req) : s.editRequest t f = { s with
    link := s.link.putTag t { s.link.tag t with record := (s.link.tag t).record.map fun o => { o with req := f o.req } }
    sent := s.sent.map fun m => match m with
      | .request k g r => if k = t then .request k g (f r) else m
      | m => m } := by
  have hsent : (s.editRequest t f).sent = s.sent.map fun m => match m with
      | .request k g r => if k = t then .request k g (f r) else m
      | m => m := by
    refine List.map_congr_left fun m _ => ?_
    cases m with
    | request k g r => simp only [beq_iff_eq]
    | _ => rfl
  rw [← hsent]
  rfl

/-- An event record write takes the oldest event of the FIFO (R130). -/
theorem State.takeOldest_of_event {s : State} {t : TagId} {v : Event} {rest : List Event} (h : s.engine.fifo = v :: rest) :
    s.takeOldest t = ({ s with engine := { s.engine with fifo := rest } }).editRequest t
      fun r => { r with bytes := placeRecord r v.bytes } := by
  unfold State.takeOldest
  rw [h]

/-- An event record write takes the loss mark that the FIFO holds behind its events, once they have gone (R131). -/
theorem State.takeOldest_of_mark {s : State} {t : TagId} {count : Nat} (h : s.engine.fifo = [])
    (hmark : s.engine.lossMark = some count) :
    s.takeOldest t = ({ s with engine := { s.bumpSequence.engine with lossMark := none } }).editRequest t
      fun r => { r with bytes := placeRecord r (eventsLost count s.engine.sequence).bytes } := by
  unfold State.takeOldest
  rw [h, hmark]

/-- Settles O53: the ranks of R128 pick the seven groups, and each item has its own equation. -/
theorem eventAccepted : Obligations.EventAccepted := by
  refine ⟨Engine.accept_eq, ?_⟩
  intro s ofChan power cache engine
  constructor
  · rw [State.numberPlace, inPlaceOrder_eq]
    have hchan (c : Chan) : s.place.filter (·.rank == c.val) = ofChan c :=
      List.filter_congr fun x _ => x.rank_eq_chan c
    have hpower : s.place.filter (·.rank == 4) = power := List.filter_congr fun x _ => x.rank_eq_power
    have hcache : s.place.filter (·.rank == 5) = cache := List.filter_congr fun x _ => x.rank_eq_cache
    have hengine : s.place.filter (·.rank == 6) = engine := List.filter_congr fun x _ => x.rank_eq_engine
    rw [← hchan 0, ← hchan 1, ← hchan 2, ← hchan 3, ← hpower, ← hcache, ← hengine]
    rfl
  · intro n bumped edited numbered carrying
    refine ⟨fun v => rfl, fun v => rfl, fun t c => ?_, fun t v rest hfifo => ?_, fun t count hfifo hmark => ?_⟩
    · rw [State.takeItem, State.editRequest_eq]
      rfl
    · exact (State.takeOldest_of_event hfifo).trans (State.editRequest_eq _ t _)
    · exact (State.takeOldest_of_mark hfifo hmark).trans (State.editRequest_eq _ t _)

end Sys2Proof.Machine
end

section
/-! PROOF. The bytes of a completion record and of an event record (R125, R127, Tables 7-1 and 7-2). -/
namespace Sys2Proof.Machine

/-- A block stays below `2 ^ m` where the bytes written to it end by bit `m`. -/
theorem toNat_putBytes_lt {w m off n v : Nat} {x : BitVec w} (hx : x.toNat < 2 ^ m) (hend : 8 * (off + n) ≤ m) :
    (putBytes x off n v).toNat < 2 ^ m := by
  refine Nat.lt_pow_two_of_testBit _ fun i hi => ?_
  rw [BitVec.testBit_toNat, getLsbD_putBytes, if_neg (by omega), ← BitVec.testBit_toNat]
  exact Nat.testBit_lt_two_pow (hx.trans_le (Nat.pow_le_pow_right (by decide) hi))

/-! ### The codes -/

theorem Status.code_eq (status : Status) : status.code = match status with
    | .completed => 1
    | .completedWithSkips => 2
    | .abandoned => 3
    | .empty => 4
    | .skipped => 5 := by
  cases status <;> rfl

theorem RingId.code_eq (r : RingId) : r.code = match r with
    | .none => 0
    | .normal => 1
    | .list => 2
    | .expedite => 3 := by
  cases r <;> rfl

theorem EventKind.code_eq (k : EventKind) : k.code = match k with
    | .jobComplete => 1
    | .jobFault => 2
    | .parked => 3
    | .unparked => 4
    | .unparkFailed => 5
    | .channelError => 6
    | .quiesceAck => 7
    | .dormantAck => 8
    | .wakeAck => 9
    | .deviceError => 10
    | .eventsLost => 11 := by
  cases k <;> rfl

/-- Every code of a record fits its byte. -/
theorem Status.code_lt (status : Status) : status.code < 2 ^ (8 * 1) := by cases status <;> decide
theorem RingId.code_lt (r : RingId) : r.code < 2 ^ (8 * 1) := by cases r <;> decide
theorem EventKind.code_lt (k : EventKind) : k.code < 2 ^ (8 * 1) := by cases k <;> decide

theorem eventChannel_lt (c : Option Chan) : eventChannel c < 2 ^ (8 * 1) := by
  cases c with
  | none => decide
  | some c => exact c.isLt.trans (by decide)

/-! ### The completion record -/

/-- What a completion record says of an OPERATION alone (R125). -/
def Current.ofJob (x : Current) (k : Nat) : Nat := if descKind x.image = some .operation then k else 0

theorem Current.ofJob_eq (x : Current) (k : Nat) : (if x.isOperation then k else 0) = x.ofJob k := by
  simp only [Current.isOperation, beq_iff_eq, Current.ofJob]

theorem Current.ofJob_lt (x : Current) {k m : Nat} (h : k < 2 ^ m) : x.ofJob k < 2 ^ m := by
  unfold Current.ofJob
  split
  · exact h
  · exact Nat.two_pow_pos m

/-- The fields of a completion record (Table 7-1). -/
theorem recordBytes_fields (status : Status) (x : Current) (n : BitVec 16) (hcommitted : x.committed < 2 ^ 32)
    (hskipped : x.skipped < 2 ^ 32) (hfaults : x.faults < 2 ^ 32) :
    let b := recordBytes status x n
    bytesAt b 0 1 = status.code ∧ bytesAt b 1 1 = x.ring.code ∧ bytesAt b 2 1 = x.ofJob x.flags.toNat ∧ bytesAt b 3 1 = 0 ∧
      bytesAt b 4 2 = n.toNat ∧ bytesAt b 6 2 = 0 ∧ bytesAt b 8 8 = x.location.toNat ∧
      bytesAt b 16 4 = x.ofJob x.committed ∧ bytesAt b 20 4 = x.ofJob x.skipped ∧ bytesAt b 24 4 = x.ofJob x.faults := by
  have hstatus := status.code_lt
  have hring := x.ring.code_lt
  have hflags : x.ofJob x.flags.toNat < 2 ^ (8 * 1) := x.ofJob_lt (x.flags.isLt.trans (by decide))
  have hcommitted' := x.ofJob_lt hcommitted
  have hskipped' := x.ofJob_lt hskipped
  have hfaults' := x.ofJob_lt hfaults
  have hn := n.isLt
  have hlocation := x.location.isLt
  simp (disch := omega) only [recordBytes, Current.ofJob_eq, bytesAt_putBytes_same, bytesAt_putBytes_ne, bytesAt_zero,
    and_self]

/-- A completion record ends with byte 27: the rest of its 32 bytes is zero (R125). -/
theorem recordBytes_lt (status : Status) (x : Current) (n : BitVec 16) : (recordBytes status x n).toNat < 2 ^ 224 := by
  unfold recordBytes
  iterate 8 refine toNat_putBytes_lt ?_ (by decide)
  exact BitVec.toNat_zero.trans_lt (Nat.two_pow_pos _)

/-! ### The event record -/

/-- The fields of an event record (Table 7-2). -/
theorem Event.bytes_fields (v : Event) :
    bytesAt v.bytes 0 1 = v.kind.code ∧ bytesAt v.bytes 1 1 = eventChannel v.channel ∧ bytesAt v.bytes 2 1 = v.ring.code ∧
      bytesAt v.bytes 3 1 = v.auto.toNat ∧ bytesAt v.bytes 4 2 = v.sequence.toNat ∧
      bytesAt v.bytes 6 2 = v.status.toNat ∧ bytesAt v.bytes 8 8 = v.location.toNat ∧
      bytesAt v.bytes 16 8 = v.detail.toNat := by
  have hkind := v.kind.code_lt
  have hchannel := eventChannel_lt v.channel
  have hring := v.ring.code_lt
  have hauto := v.auto.toNat_lt
  have hsequence := v.sequence.isLt
  have hstatus := v.status.isLt
  have hlocation := v.location.isLt
  have hdetail := v.detail.isLt
  simp (disch := omega) only [Event.bytes, bytesAt_putBytes_same, bytesAt_putBytes_ne, and_self]

/-- An event record ends with byte 23: the rest of its 32 bytes is zero (R127). -/
theorem Event.bytes_lt (v : Event) : v.bytes.toNat < 2 ^ 192 := by
  unfold Event.bytes
  iterate 8 refine toNat_putBytes_lt ?_ (by decide)
  exact BitVec.toNat_zero.trans_lt (Nat.two_pow_pos _)

theorem eventChannel_eq (c : Option Chan) : eventChannel c = match c with
    | some c => c.val
    | none => 0xFF := rfl

theorem toNat_eq_ite (b : Bool) : b.toNat = if b then 1 else 0 := by
  cases b <;> rfl

/-- Settles O54: each field is read back from where it was written, beside the fields written after it. -/
theorem recordLayouts : Obligations.RecordLayouts := by
  intro status x n v hcommitted hskipped hfaults ring ofJob b e
  have hring (r : RingId) : r.code = ring r := r.code_eq
  obtain ⟨hstatus, hr, hflags, hpad3, hn, hpad6, hlocation, hcommitted, hskipped, hfaults⟩ :=
    recordBytes_fields status x n hcommitted hskipped hfaults
  obtain ⟨ekind, echannel, ering, eauto, esequence, estatus, elocation, edetail⟩ := v.bytes_fields
  exact ⟨⟨hstatus.trans status.code_eq, hr.trans (hring x.ring), hflags, hpad3, hn, hpad6, hlocation, hcommitted, hskipped,
      hfaults, recordBytes_lt status x n⟩,
    ekind.trans v.kind.code_eq, echannel.trans (eventChannel_eq v.channel), ering.trans (hring v.ring),
    eauto.trans (toNat_eq_ite v.auto), esequence, estatus, elocation, edetail, v.bytes_lt⟩

end Sys2Proof.Machine
end

section
/-! PROOF. How a command ends (R128, R131, R134, R144, R161; log 6): closing field by field, the order of the part's own
actions, and the tag that the oldest waiting request takes (R154, R155). -/
namespace Sys2Proof.Machine

/-! ### Closing -/

/-- Neither the evaluation of the interrupt nor the age of a request bears on the Doze condition (R161). -/
theorem State.dozeCondition_evalInterrupt_age (s : State) : s.evalInterrupt.age.dozeCondition = s.dozeCondition := by
  rw [State.evalInterrupt_eq]
  simp only [State.dozeCondition, State.age, Link.still, List.isEmpty_map]
  rfl

/-! ### The part's own actions -/

theorem firstStep_cons (s : State) (f : State → Option State) (fs : List (State → Option State)) :
    firstStep s (f :: fs) = (f s <|> firstStep s fs) := by
  rw [firstStep]
  cases f s <;> rfl

/-- The first possible action in the order of log 6. -/
theorem State.progress_eq (s : State) : s.progress =
    (s.chanStep 0 <|> s.chanStep 1 <|> s.chanStep 2 <|> s.chanStep 3 <|> s.beatStep <|> s.serve <|>
      s.endCommandSweep <|> s.startSweep <|> s.softInitDone <|> s.quiescingDone <|> s.dormantNext) := by
  have hlast : (s.dormantNext <|> firstStep s []) = s.dormantNext := by cases s.dormantNext <;> rfl
  simp only [State.progress, firstStep_cons, hlast]

/-! ### The tag of a request -/

theorem pairwise_allTags : allTags.Pairwise (· < ·) := by decide

/-- The search of the tags finds the lowest one that fits. -/
theorem find_allTags {p : TagId → Bool} {t : TagId} (ht : p t = true) (hleast : ∀ k, p k = true → t ≤ k) :
    allTags.find? p = some t := by
  obtain ⟨before, after, hsplit⟩ := List.append_of_mem (mem_allTags t)
  have hsorted := pairwise_allTags
  rw [hsplit, List.pairwise_append] at hsorted
  obtain ⟨-, -, hbefore⟩ := hsorted
  rw [List.find?_eq_some_iff_append]
  refine ⟨ht, before, after, hsplit, fun k hk => ?_⟩
  have hlt : k < t := hbefore k hk t List.mem_cons_self
  simpa using fun hp => hlt.not_ge (hleast k hp)

/-- The tag the link interface gives (R155): among the free ones of the pool, those without a stale mark first, the
lowest. -/
theorem Link.freeTag_eq {l : Link} {data : Bool} {t : TagId}
    (ht : isDataTag t = data ∧ (l.tag t).state = .free)
    (hclean : ∀ k, isDataTag k = data ∧ (l.tag k).state = .free → (l.tag k).stale = false → (l.tag t).stale = false)
    (hleast : ∀ k, isDataTag k = data ∧ (l.tag k).state = .free → (l.tag k).stale = (l.tag t).stale → t ≤ k) :
    l.freeTag data = some t := by
  unfold Link.freeTag
  cases hstale : (l.tag t).stale with
  | false =>
    rw [find_allTags (t := t)]
    · simp [ht, hstale]
    · intro k hk
      simp only [Bool.and_eq_true, beq_iff_eq, Bool.not_eq_true'] at hk
      exact hleast k hk.1 (hk.2.trans hstale.symm)
  | true =>
    have hall (k : TagId) (hk : isDataTag k = data ∧ (l.tag k).state = .free) : (l.tag k).stale = true := by
      rw [← Bool.not_eq_false]
      intro hclear
      exact Bool.false_ne_true ((hclean k hk hclear).symm.trans hstale)
    have hnone : allTags.find? (fun k => isDataTag k == data && (l.tag k).state == .free && !(l.tag k).stale) = none := by
      rw [List.find?_eq_none]
      intro k _ hk
      simp only [Bool.and_eq_true, beq_iff_eq, Bool.not_eq_true'] at hk
      exact Bool.false_ne_true (hk.2.symm.trans (hall k hk.1))
    rw [hnone]
    refine find_allTags ?_ fun k hk => ?_
    · simp [ht]
    · simp only [Bool.and_eq_true, beq_iff_eq] at hk
      exact hleast k hk ((hall k hk).trans hstale.symm)

/-! ### The oldest waiting request -/

/-- The purposes of fills, of reads, of bypass writes and of WriteLines: none of them is a record, a CSB access or a
descriptor half. -/
def Purpose.isLine : Purpose → Bool
  | .read _ _ | .prefetch | .acquire | .bypass _ _ | .writeBack => true
  | _ => false

theorem Purpose.usesData_of_isLine {p : Purpose} (h : p.isLine = true) : p.usesData = true ↔ p ≠ .writeBack := by
  cases p <;> simp_all [Purpose.isLine, Purpose.usesData]

theorem Req.isRecordWrite_of_isLine {r : Req} (h : r.purpose.isLine = true) : r.isRecordWrite = false := by
  unfold Req.isRecordWrite
  revert h
  cases r.purpose <;> simp [Purpose.isLine]

/-- The traffic classes that issue a request without any edit of the state: all but Upgrades, record writes and
descriptor halves. -/
theorem State.issueByClass_of_isLine {s : State} {t : TagId} {r : Req} (hp : r.purpose.isLine = true)
    (hk : r.kind ≠ .upgrade) : s.issueByClass t r = s.issue t r := by
  have hkind : (r.kind == .upgrade) = false := beq_eq_false_iff_ne.2 hk
  have hrecord := Req.isRecordWrite_of_isLine hp
  have htake : s.takeFor r = s := by
    unfold State.takeFor
    revert hp
    cases r.purpose <;> simp [Purpose.isLine]
  unfold State.issueByClass
  simp only [hkind, hrecord, htake, Bool.false_eq_true, if_false]
  revert hp
  cases r.purpose <;> simp [Purpose.isLine]

/-- The oldest waiting request, none of a record, that neither the eviction buffer nor the cap of its channel holds back,
takes the tag that the link interface gives (R143, R154, R155). -/
theorem State.service_oldest {s : State} {r : Req} {t : TagId} (hp : r.purpose.isLine = true) (hk : r.kind ≠ .readDirect)
    (hevict : r.kind.waitsOnEviction = true → s.cache.evicting (r.address / 64) = false)
    (hcap : ∀ c, r.purpose.usesData = true → r.owner = .channel c → s.link.dataHeld c < 12)
    (htag : s.link.freeTag r.purpose.usesData = some t) : s.service [] r = some (.issue t) := by
  have hdirect : (r.kind == .readDirect) = false := beq_eq_false_iff_ne.2 hk
  have hrecord := Req.isRecordWrite_of_isLine hp
  have hwaits : (r.kind.waitsOnEviction && s.cache.evicting (r.address / 64)) = false := by
    cases hw : r.kind.waitsOnEviction with
    | false => rfl
    | true => exact hevict hw
  have hfree : (match r.purpose.usesData, r.owner with
      | true, .channel c => decide (s.link.dataHeld c < Config.dataTagCap)
      | _, _ => true) = true := by
    split
    · next c hdata howner => exact decide_eq_true (hcap c hdata howner)
    · rfl
  unfold State.service
  simp only [List.any_nil, hdirect, hwaits, hrecord, Bool.false_eq_true, if_false, htag, Option.map_some]
  exact if_pos hfree

/-- The first waiting request is served where it can be (R155). -/
theorem State.serve_issue {s : State} {r : Req} {rest : List Req} {t : TagId} (hwaiting : s.link.waiting = r :: rest)
    (hservice : s.service [] r = some (.issue t)) :
    s.serve = some (({ s with link := { s.link with waiting := rest } }).issueByClass t r) := by
  unfold State.serve
  rw [hwaiting, pickWaiting, hservice]
  rfl

theorem Cache.evicting_eq_false {k : Cache} {n : Nat} (h : ∀ e ∈ k.evict, e.line ≠ n) : k.evicting n = false := by
  simpa [Cache.evicting] using h

theorem isDataTag_eq_iff (t : TagId) {data : Bool} {P : Prop} (hdata : data = true ↔ P) :
    isDataTag t = data ↔ (t.val < 28 ↔ P) := by
  rw [← hdata, Bool.eq_iff_iff, isDataTag, decide_eq_true_iff]
  rfl

/-- Settles O3: closing is field by field, and the oldest request meets none of the bars to its service. -/
theorem commandEnds : Obligations.CommandEnds := by
  intro s u
  have hclose := s.close_eq
  rw [s.close_device, State.dozeCondition_evalInterrupt_age, ← s.numberPlace_same.cache] at hclose
  refine ⟨hclose, State.numberPlace_of_nil, State.settleClose_of_rests, rfl, rfl, fun n v => settleLoop_some,
    fun n h => settleLoop_of_rests h n, s.progress_eq, ?_⟩
  intro r rest t hwaiting hkind hpurpose hevict hcap free hfree hclean hleast
  have hp : r.purpose.isLine = true := hpurpose
  have hdata := Purpose.usesData_of_isLine hp
  have hpool (k : TagId) : isDataTag k = r.purpose.usesData ∧ (s.link.tag k).state = .free ↔ free k :=
    and_congr_left fun _ => isDataTag_eq_iff k hdata
  have htag : s.link.freeTag r.purpose.usesData = some t :=
    Link.freeTag_eq ((hpool t).2 hfree) (fun k hk => hclean k ((hpool k).1 hk)) (fun k hk => hleast k ((hpool k).1 hk))
  have hservice : s.service [] r = some (.issue t) := by
    refine State.service_oldest hp ?_ (fun hw => ?_) (fun c hd => hcap c (hdata.1 hd)) htag
    · rintro hk
      simp [hk] at hkind
    · rcases hevict with hk | hnone
      · simp [hk, ReqKind.waitsOnEviction] at hw
      · exact Cache.evicting_eq_false hnone
  rw [State.serve_issue hwaiting hservice, State.issueByClass_of_isLine hp (by rintro hk; simp [hk] at hkind)]
  rfl

end Sys2Proof.Machine
end

section
/-! PROOF. Probes (R147, R148, R168): the answer by the first row of the table that applies, and the line after it. -/
namespace Sys2Proof.Machine
variable {s : State}

theorem Cache.evicting_iff (k : Cache) (n : Nat) : k.evicting n = true ↔ ∃ e ∈ k.evict, e.line = n := by
  simp [Cache.evicting]

/-- The line after a probe (R147): a valid one becomes Invalid or Shared. -/
def CacheLine.probed (invalidate : Bool) (l : CacheLine) : CacheLine :=
  if l.state = .invalid then l else if invalidate then l.drop else { l with state := .shared }

/-- The part as it answers a probe. -/
def State.answering (s : State) (m : ProbeAnswer) (k : Cache) : State := { s.fresh with sent := [.probeResp m], cache := k }

theorem State.probe_asleep (a : Word64) (invalidate : Bool)
    (hs : s.device.power = .dormant ∨ s.device.power = .waking) :
    s.begin.probe a invalidate = s.answering .miss s.cache := by
  have hs' : (s.begin.device.power == .dormant || s.begin.device.power == .waking) = true := by simpa using hs
  simp only [State.probe, hs', if_true]
  rfl

/-- Outside Dormant and Waking the eviction buffer is looked at first, and then the line. -/
theorem State.probe_awake (a : Word64) (invalidate : Bool)
    (hs : ¬(s.device.power = .dormant ∨ s.device.power = .waking)) : s.begin.probe a invalidate =
    if s.cache.evicting (a.toNat / 64) then
      s.answering .inTransit (s.cache.modLine (a.toNat / 64) (CacheLine.probed invalidate))
    else match s.cache.line (a.toNat / 64) with
      | none => s.answering .miss s.cache
      | some l =>
        if l.fill then s.answering .miss s.cache
        else match l.state with
          | .invalid => s.answering .miss s.cache
          | .shared | .exclusive =>
            s.answering .hitClean (s.cache.modLine (a.toNat / 64) (CacheLine.probed invalidate))
          | .dirty => s.answering (.hitDirty l.bytes) (s.cache.modLine (a.toNat / 64) (CacheLine.probed invalidate)) := by
  have hs' : (s.begin.device.power == .dormant || s.begin.device.power == .waking) = false := by simpa using hs
  simp only [State.probe, hs', Bool.false_eq_true, if_false, beq_iff_eq]
  rfl

/-- Settles O41: both probes run one table, with the line change of `CacheLine.probed`. -/
theorem probes : Obligations.Probes := by
  intro s a n share invalidate answer table
  have hrows (i : Bool) : Host.Outcome.next (s.begin.probe a i).settleClose = table (CacheLine.probed i) := by
    by_cases hs : s.device.power = .dormant ∨ s.device.power = .waking
    · simp only [table, if_pos hs, State.probe_asleep a i hs]
      rfl
    · simp only [table, if_neg hs, State.probe_awake a i hs, Cache.evicting_iff]
      split
      · rfl
      · cases s.cache.line n with
        | none => rfl
        | some l =>
          cases hf : l.fill with
          | true => simp only [hf, if_true]; rfl
          | false =>
            cases hl : l.state <;> simp only [hf, hl] <;> rfl
  exact ⟨hrows false, hrows true⟩

end Sys2Proof.Machine
end

section
/-! PROOF. What Data and Done do for a fill and for an Upgrade, and the sibling prefetch (R138, R140, R141, R148, R151). -/
namespace Sys2Proof.Machine
variable {s u : State} {t : TagId} {g : Bool} {r : Req} {c : Chan}

/-! ### Upgrades -/

/-- An acquisition of line `n` that has been answered is judged again (R141). -/
def Acq.reopened (n : Nat) (q : Acq) : Acq := if q.line = n ∧ q.state = .issued then { q with state := .open_ } else q

theorem State.reopenAcq_eq (u : State) (n : Nat) : u.reopenAcq n =
    { u with beat := u.beat.map fun b => { b with acqs := b.acqs.map (Acq.reopened n) } } := by
  simp only [State.reopenAcq, State.modBeat, Bool.and_eq_true, beq_iff_eq]
  rfl

theorem State.upgradeDone_eq (u : State) (n : Nat) : u.upgradeDone n = { u with
    cache := u.cache.modLine n fun l =>
      { l with upgrade := false, state := if l.state = .shared then .exclusive else l.state }
    beat := u.beat.map fun b => { b with acqs := b.acqs.map (Acq.reopened n) } } := by
  simp only [State.upgradeDone, State.reopenAcq_eq, State.modCache, beq_iff_eq]

theorem State.upgradeData_eq (u : State) (n : Nat) (bytes : Line) : u.upgradeData n bytes = { u with
    cache := u.cache.modLine n fun l => { l with upgrade := false, state := .exclusive, bytes := bytes }
    beat := u.beat.map fun b => { b with acqs := b.acqs.map (Acq.reopened n) } } := by
  rw [State.upgradeData, State.reopenAcq_eq]
  rfl

/-- Settles O48: Done and Data with grant Exclusive are listed for an Upgrade, Data with grant Shared is not. -/
theorem upgradeResponses : Obligations.UpgradeResponses := by
  intro s t g r bytes h hk n reopens answer
  refine ⟨?_, ?_, ?_⟩
  · rw [exec_upgradeDone, execUpgradeDone, State.arrive_answered h (by rw [hk]; rfl) (by simp)]
    simp only [State.answered, hk, State.upgradeDone_eq]
    rfl
  · rw [exec_upgradeData, execUpgradeData, State.arrive_answered h (by rw [hk]; rfl) (by simp)]
    simp only [State.answered, hk, State.upgradeData_eq]
    rfl
  · rw [exec_upgradeData, execUpgradeData, State.arrive_unlisted h (by rw [hk]; rfl)]

/-! ### Fills -/

/-- The matched Data of a fill, in a state that Table 9-1 lists for the request (R138, R141, R151). -/
theorem State.arrive_fill (h : s.Awaits t g r) {grant : Grant}
    (hk : r.kind = .fetchShared ∨ r.kind = .fetchOwned ∧ grant = .exclusive) (bytes : Line) :
    s.arrive t g (.data grant bytes) = ((s.ended t).fillData r (Grant.lineState grant) bytes).settleClose := by
  have haccepts : r.kind.accepts (.data grant bytes) = true := by
    rcases hk with hk | ⟨hk, rfl⟩ <;> rw [hk] <;> rfl
  rw [State.arrive_answered h haccepts (by simp)]
  rcases hk with hk | ⟨hk, rfl⟩
  · simp only [State.answered, hk]
  · simp only [State.answered, hk, Grant.lineState]

/-- The line of a fill is installed, and what waited for it goes on (R138, R140, R141). -/
def State.filled (u : State) (n : Nat) (state : LineState) (bytes : Line) : State :=
  ((u.modCache fun k => k.install n state bytes).takeFill n bytes).reopenAcq n

theorem State.fillData_filled (hp : ∀ st, r.purpose ≠ .read st true) (state : LineState) (bytes : Line) :
    u.fillData r state bytes = u.filled (r.address / 64) state bytes := by
  unfold State.fillData
  split
  · next st _ hpurpose _ => exact absurd hpurpose (hp st)
  · rfl

theorem State.fillData_tagMiss {st : StreamId} (hp : r.purpose = .read st true) (hc : r.owner = .channel c)
    (state : LineState) (bytes : Line) :
    u.fillData r state bytes = (u.filled (r.address / 64) state bytes).considerPrefetch c (r.address / 64) := by
  simp only [State.fillData, hp, hc]
  rfl

/-- An Invalid line takes the bytes of its fill; the marker goes in any case (R138, R148). -/
def CacheLine.filled (state : LineState) (bytes : Line) (l : CacheLine) : CacheLine :=
  if l.state = .invalid then { l with state := state, bytes := bytes, fill := false } else { l with fill := false }

/-- A read that waits for the fill of line `n` takes its bytes (R138). -/
def Access.filled (n : Nat) (bytes : Line) (a : Access) : Access :=
  match a.state with
  | .onFill _ => if a.address / 64 = n then { a with state := .got (bytesAt bytes (a.address % 64) a.size) } else a
  | _ => a

theorem State.filled_eq (u : State) (n : Nat) (state : LineState) (bytes : Line) : u.filled n state bytes = { u with
    cache := u.cache.modLine n (CacheLine.filled state bytes)
    beat := u.beat.map fun b =>
      { b with accesses := b.accesses.map (Access.filled n bytes), acqs := b.acqs.map (Acq.reopened n) } } := by
  simp only [State.filled, State.reopenAcq_eq, State.takeFill, State.modCache, State.modBeat, Cache.install,
    Option.map_map, beq_iff_eq]
  rfl

/-! ### The sibling prefetch -/

theorem siblingLine_eq (n : Nat) : siblingLine n = if n % 2 = 1 then n - 1 else n + 1 := by
  simp only [siblingLine, lineUpper, beq_iff_eq]

theorem CacheLine.not_busy (l : CacheLine) : (!l.busy) = (!l.fill && !l.upgrade) := Bool.not_or ..

/-- Settles O47: the state after the fill is `State.filled`, and the prefetch is judged on it. -/
theorem fillData : Obligations.FillData := by
  intro s t g r grant bytes c h hc n state takes reopens u sibling wanted
  have hu : (s.ended t).filled n (Grant.lineState grant) bytes = u := by
    rw [State.filled_eq]
    cases grant <;> rfl
  have hsibling : siblingLine n = sibling := siblingLine_eq n
  have hwanted : u.prefetchWanted c n = wanted := by
    simp only [State.prefetchWanted, Link.upgradeWaits, hsibling, wanted]
    clear_value u
    cases u.cache.line sibling <;> simp only [CacheLine.not_busy, Bool.and_assoc] <;> rfl
  clear_value u wanted sibling
  have hfill (hk : r.kind = .fetchShared ∨ r.kind = .fetchOwned ∧ grant = .exclusive)
      (hp : ∀ st, r.purpose ≠ .read st true) : s.arrive t g (.data grant bytes) = u.settleClose := by
    rw [State.arrive_fill h hk, State.fillData_filled hp, hu]
  refine ⟨fun hk hp => ?_, fun hk hg hp => ?_, fun hk hg => ?_, fun st hk hp => ?_⟩
  · rw [exec_fetchSharedData, execFetchSharedData, exec_siblingPrefetchData, execSiblingPrefetchData,
      hfill (.inl hk) hp]
    exact ⟨rfl, rfl⟩
  · rw [exec_fetchOwnedData, execFetchOwnedData, hfill (.inr ⟨hk, hg⟩) hp]
  · subst hg
    rw [exec_fetchOwnedData, execFetchOwnedData, State.arrive_unlisted h (by rw [hk]; rfl)]
  · rw [exec_fetchSharedData, execFetchSharedData, State.arrive_fill h (.inl hk), State.fillData_tagMiss hp hc, hu,
      State.considerPrefetch, hwanted, hsibling]
    rfl

end Sys2Proof.Machine
end

section
/-! PROOF. The next set of a sweep (R143, R145, R146, R155, R167; logs 7, 21 and 32): what it does to one line, and the
lines of the set taken one after the other, as an invariant of the lines done so far. -/
namespace Sys2Proof.Machine
variable {s u : State} {w : Sweep} {i : SetId}

/-! ### A line of a set replaced -/

/-- The line of a way and half of set `i`. -/
def Cache.lineAt (k : Cache) (i : SetId) (p : WayId × Bool) : CacheLine := ((k.set i).way p.1).line p.2

/-- Read after write of a line of a set. -/
theorem Cache.lineAt_putLine (k : Cache) (i : SetId) (p q : WayId × Bool) (l : CacheLine) :
    (k.putLine i p.1 p.2 l).lineAt i q = if q = p then l else k.lineAt i q := by
  obtain ⟨v, up⟩ := p
  obtain ⟨x, vp⟩ := q
  rw [Cache.putLine, Cache.lineAt, Cache.set_putSet, if_pos rfl, CacheSet.way_putWay]
  by_cases hx : x = v
  · subst hx
    simp only [if_true, CacheWay.line_setLine, Prod.mk.injEq, true_and, Cache.lineAt]
  · simp only [Prod.mk.injEq, hx, false_and, if_false, Cache.lineAt]

theorem Cache.putLine_tag (k : Cache) (i : SetId) (v x : WayId) (up : Bool) (l : CacheLine) :
    (((k.putLine i v up l).set i).way x).tag = ((k.set i).way x).tag ∧
      (((k.putLine i v up l).set i).way x).tagValid = ((k.set i).way x).tagValid := by
  rw [Cache.putLine, Cache.set_putSet, if_pos rfl, CacheSet.way_putWay]
  split
  · next hx => subst hx; simp
  · exact ⟨rfl, rfl⟩

theorem Cache.putLine_lru (k : Cache) (i : SetId) (v : WayId) (up : Bool) (l : CacheLine) :
    ((k.putLine i v up l).set i).lru = (k.set i).lru := by
  rw [Cache.putLine, Cache.set_putSet, if_pos rfl]
  rfl

theorem Cache.putLine_set_ne (k : Cache) {i j : SetId} (v : WayId) (up : Bool) (l : CacheLine) (hj : j ≠ i) :
    (k.putLine i v up l).set j = k.set j := by
  rw [Cache.putLine, Cache.set_putSet, if_neg hj]

theorem CacheWay.setLine_line (y : CacheWay) (up : Bool) : y.setLine up (y.line up) = y := by cases up <;> rfl

theorem CacheSet.putWay_way (x : CacheSet) (v : WayId) : x.putWay v (x.way v) = x := by
  simp only [CacheSet.putWay, CacheSet.way, Vector.set_getElem_self]

theorem Cache.putSet_set (k : Cache) (i : SetId) : k.putSet i (k.set i) = k := by
  simp only [Cache.putSet, Cache.set, Vector.set_getElem_self]

/-- A line put back as it was changes nothing. -/
theorem Cache.putLine_lineAt (k : Cache) (i : SetId) (p : WayId × Bool) : k.putLine i p.1 p.2 (k.lineAt i p) = k := by
  rw [Cache.putLine, Cache.lineAt, CacheWay.setLine_line, CacheSet.putWay_way, Cache.putSet_set]

/-! ### One line -/

/-- A sweep that answers a FLUSH keeps what it writes back (R145). -/
def Sweep.flushes (w : Sweep) : Bool :=
  match w.kind with
  | .flush _ => true
  | .command | .dormantEntry => false

/-- A line that the sweep writes back (R145, R146, R167). -/
def Sweep.writes (w : Sweep) (l : CacheLine) : Bool := l.state == .dirty && (w.flushes || !l.busy)

/-- The line as the sweep leaves it (R145, R146, R167). -/
def Sweep.leaves (w : Sweep) (l : CacheLine) : CacheLine :=
  if w.flushes then (if w.writes l then { l with state := .exclusive } else l)
  else if l.busy || l.state == .invalid then l else l.drop

/-- The entry of the eviction buffer that the sweep makes of a line of set `i` of cache `k`, if it writes it back. -/
def Sweep.entry (w : Sweep) (k : Cache) (i : SetId) (p : WayId × Bool) : Option EvictEntry :=
  if w.writes (k.lineAt i p) then
    some { line := wayLine i ((k.set i).way p.1).tag p.2, bytes := (k.lineAt i p).bytes, sweep := some w.number }
  else none

/-- The WriteLine of an entry of the eviction buffer (R143). -/
def EvictEntry.writeLine (e : EvictEntry) : Req :=
  { kind := .writeLine, address := e.line * 64, span := 64, mask := BitVec.allOnes 64, bytes := e.bytes
    owner := .cache, purpose := .writeBack, orphan := false, waited := false, fresh := true }

/-- An entry is appended to the eviction buffer, and its WriteLine becomes ready (R143). -/
def State.evictEntry (s : State) (e : EvictEntry) : State :=
  State.ask { s with cache := { s.cache with evict := s.cache.evict ++ [e] } } e.writeLine

/-- The line is put back as the sweep leaves it, and its entry, if it makes one, is appended (R143, R145). -/
theorem State.sweepLine_eq (s : State) (w : Sweep) (i : SetId) (p : WayId × Bool) : s.sweepLine w i p.1 p.2 =
    ((w.entry s.cache i p).toList).foldl State.evictEntry
      (s.modCache fun k => k.putLine i p.1 p.2 (w.leaves (s.cache.lineAt i p))) := by
  have hkeep : (s.modCache fun k => k.putLine i p.1 p.2 (s.cache.lineAt i p)) = s := by
    rw [State.modCache, Cache.putLine_lineAt]
  unfold State.sweepLine Sweep.entry Sweep.leaves Sweep.writes Sweep.flushes
  simp only [show ((s.cache.set i).way p.1).line p.2 = s.cache.lineAt i p from rfl]
  cases w.kind with
  | flush c =>
    cases hd : (s.cache.lineAt i p).state == .dirty with
    | true => simp; rfl
    | false => simp [hkeep]
  | command | dormantEntry =>
    cases hb : (s.cache.lineAt i p).busy with
    | true => simp [hkeep]
    | false =>
      cases hl : (s.cache.lineAt i p).state <;> simp [hkeep] <;> rfl

/-! ### The lines of the set -/

/-- The lines of a set in the order of ways and halves. -/
def setPlaces : List (WayId × Bool) := allWays.flatMap fun v => [false, true].map fun up => (v, up)

theorem mem_setPlaces (p : WayId × Bool) : p ∈ setPlaces := by revert p; decide

theorem nodup_setPlaces : setPlaces.Nodup := by decide

/-- The WriteLines of some entries become ready one after the other (R143, R155). -/
def Link.writeBack (l : Link) (es : List EvictEntry) : Link :=
  { l with waiting := es.foldl (fun ws e => insertReady e.writeLine ws) l.waiting }

theorem Link.writeBack_append (l : Link) (es es' : List EvictEntry) :
    l.writeBack (es ++ es') = (l.writeBack es).writeBack es' := by
  simp only [Link.writeBack, List.foldl_append]

theorem State.foldl_ask_writeLine (es : List EvictEntry) (u : State) :
    es.foldl (fun v e => v.ask e.writeLine) u = { u with link := u.link.writeBack es } := by
  induction es generalizing u with
  | nil => rfl
  | cons e es ih => exact ih _

theorem State.foldl_evictEntry (es : List EvictEntry) (u : State) : es.foldl State.evictEntry u = { u with
    cache := { u.cache with evict := u.cache.evict ++ es }, link := u.link.writeBack es } := by
  induction es generalizing u with
  | nil => simp only [List.append_nil]; rfl
  | cons e es ih =>
    rw [← List.singleton_append, ← List.append_assoc]
    exact ih _

/-- The sweep `w` has done the lines `done` of set `i` of `s`, in this order, and has come to `u`. -/
structure State.Swept (s : State) (w : Sweep) (i : SetId) (done : List (WayId × Bool)) (u : State) : Prop where
  cache : u.cache = { s.cache with evict := s.cache.evict ++ done.filterMap (w.entry s.cache i), sets := u.cache.sets }
  link : u.link = s.link.writeBack (done.filterMap (w.entry s.cache i))
  lines : ∀ p, u.cache.lineAt i p = if p ∈ done then w.leaves (s.cache.lineAt i p) else s.cache.lineAt i p
  tags : ∀ v, ((u.cache.set i).way v).tag = ((s.cache.set i).way v).tag ∧
    ((u.cache.set i).way v).tagValid = ((s.cache.set i).way v).tagValid
  lru : (u.cache.set i).lru = (s.cache.set i).lru
  sets : ∀ j, j ≠ i → u.cache.set j = s.cache.set j
  rest : u = { s.fresh with cache := u.cache, link := u.link }

theorem State.Swept.start : s.Swept w i [] s.fresh where
  cache := by rw [List.filterMap_nil, List.append_nil]; rfl
  link := rfl
  lines p := by rw [if_neg List.not_mem_nil]; rfl
  tags _ := ⟨rfl, rfl⟩
  lru := rfl
  sets _ _ := rfl
  rest := rfl

/-- One more line is done: none of those done before is touched, so the line and its entry are those of `s`. -/
theorem State.Swept.next {done : List (WayId × Bool)} (h : s.Swept w i done u) {p : WayId × Bool} (hp : p ∉ done) :
    s.Swept w i (done ++ [p]) (u.sweepLine w i p.1 p.2) := by
  have hline : u.cache.lineAt i p = s.cache.lineAt i p := by rw [h.lines, if_neg hp]
  have hentry : w.entry u.cache i p = w.entry s.cache i p := by
    rw [Sweep.entry, Sweep.entry, hline, (h.tags p.1).1]
  have hsplit : (done ++ [p]).filterMap (w.entry s.cache i) =
      done.filterMap (w.entry s.cache i) ++ (w.entry s.cache i p).toList := by
    rw [List.filterMap_append, List.filterMap_cons]
    cases w.entry s.cache i p <;> rfl
  rw [State.sweepLine_eq, hentry, hline, State.foldl_evictEntry]
  constructor
  case cache =>
    show ({ u.cache with sets := _, evict := u.cache.evict ++ _ } : Cache) = _
    rw [h.cache, hsplit, List.append_assoc]
  case link =>
    rw [hsplit, Link.writeBack_append, ← h.link]
    rfl
  case lines =>
    intro q
    refine (Cache.lineAt_putLine ..).trans ?_
    rw [h.lines q]
    by_cases hq : q = p
    · subst hq; simp
    · simp [hq]
  case tags => exact fun v => ⟨(Cache.putLine_tag ..).1.trans (h.tags v).1, (Cache.putLine_tag ..).2.trans (h.tags v).2⟩
  case lru => exact (Cache.putLine_lru ..).trans h.lru
  case sets => exact fun j hj => (Cache.putLine_set_ne _ _ _ _ hj).trans (h.sets j hj)
  case rest =>
    rw [h.rest]
    rfl

/-- The lines of a list that have not been done yet are done in turn. -/
theorem State.Swept.foldl (ps : List (WayId × Bool)) : ∀ {done : List (WayId × Bool)} {u : State}, s.Swept w i done u →
    (done ++ ps).Nodup → s.Swept w i (done ++ ps) (ps.foldl (fun u p => u.sweepLine w i p.1 p.2) u) := by
  induction ps with
  | nil => intro done u h _; rwa [List.append_nil]
  | cons p ps ih =>
    intro done u h hn
    have hp : p ∉ done := fun hmem => List.disjoint_of_nodup_append hn hmem List.mem_cons_self
    rw [List.append_cons] at hn ⊢
    exact ih (h.next hp) hn

/-- All the lines of the set are done. -/
theorem State.swept_setPlaces (s : State) (w : Sweep) (i : SetId) :
    s.Swept w i setPlaces (setPlaces.foldl (fun u p => u.sweepLine w i p.1 p.2) s.fresh) :=
  State.Swept.foldl setPlaces .start nodup_setPlaces

/-! ### The next set -/

/-- The sweep moves to the next set, or ends after the last (R145). -/
def Sweep.movedOn (w : Sweep) (k : Cache) : Cache :=
  { k with sweep := if w.next + 1 < 128 then some { w with next := w.next + 1 } else none }

theorem State.sweepNext_of_none (hw : s.cache.sweep = none) : s.begin.sweepNext = s.fresh := by
  simp only [State.sweepNext, State.begin_cache, hw]
  rfl

theorem State.sweepNext_of_some (hw : s.cache.sweep = some w) : s.begin.sweepNext =
    if s.cache.room (s.cache.set (setOf w.next)).dirtyLines then
      (setPlaces.foldl (fun u p => u.sweepLine w (setOf w.next) p.1 p.2) s.fresh).modCache w.movedOn
    else s.fresh := by
  simp only [State.sweepNext, State.begin_cache, hw, setPlaces, List.foldl_flatMap]
  by_cases hroom : s.cache.room (s.cache.set (setOf w.next)).dirtyLines = true
  · simp only [hroom, Bool.not_true, Bool.false_eq_true, if_false, if_true]
    rfl
  · rw [Bool.not_eq_true] at hroom
    simp only [hroom, Bool.not_false, Bool.false_eq_true, if_false, if_true]
    rfl

theorem CacheSet.dirtyLines_eq_sum (x : CacheSet) : x.dirtyLines =
    (allWays.map fun v => (if ((x.way v).line false).state = .dirty then 1 else 0) +
      (if ((x.way v).line true).state = .dirty then 1 else 0)).sum := by
  have htoNat (l : CacheLine) : (l.state == .dirty).toNat = if l.state = .dirty then 1 else 0 := by
    cases l.state <;> rfl
  simp [CacheSet.dirtyLines_eq, CacheWay.dirtyLines, allWays, htoNat, CacheWay.line]
  omega

/-- Settles O45: with room for its Dirty lines, all lines of the set are done in turn (`State.swept_setPlaces`). -/
theorem sweepSet : Obligations.SweepSet := by
  intro s
  constructor
  · intro hw
    rw [exec_sweepSet, execSweepSet, State.sweepNext_of_none hw]
  intro w hw i before flush written dirty entries
  have hroom : s.cache.room (s.cache.set i).dirtyLines = true ↔ s.cache.evict.length + dirty ≤ 4 := by
    rw [Cache.room_iff, CacheSet.dirtyLines_eq_sum]
    rfl
  have hentries : setPlaces.filterMap (w.entry s.cache i) = entries := by
    simp only [setPlaces, List.filterMap_flatMap, List.filterMap_map]
    rfl
  rw [exec_sweepSet, execSweepSet, State.sweepNext_of_some hw]
  constructor
  · intro hfull
    rw [if_neg (hroom.not.2 hfull.not_ge)]
  · intro hfits
    rw [if_pos (hroom.2 hfits)]
    have h := s.swept_setPlaces w i
    generalize setPlaces.foldl (fun u p => u.sweepLine w i p.1 p.2) s.fresh = u at h
    refine ⟨u.modCache w.movedOn, rfl, ?_, ?_, fun v up => ?_, h.tags, h.lru, h.sets, ?_⟩
    · rw [← hentries, State.modCache_cache, Sweep.movedOn, h.cache]
    · rw [← hentries]
      exact h.link.trans (congrArg State.link (State.foldl_ask_writeLine _ s)).symm
    · refine (h.lines (v, up)).trans ?_
      rw [if_pos (mem_setPlaces _)]
      rfl
    · rw [h.rest]
      rfl

end Sys2Proof.Machine
end

section
/-! PROOF. The register window (R158, R168, R175 to R180): every register at its own offset, what a read returns in each
power state, and the fields of the status words and of the Fault Record. -/
namespace Sys2Proof.Machine
variable {s : State}

/-! ### The register map -/

/-- The map of a channel block (Table 12-2). -/
theorem ChanReg.ofOffset_offset (r : ChanReg) :
    ChanReg.ofOffset r.offset = some r ∧ r.offset < 0x100 ∧ r.offset % 4 = 0 := by
  cases r with
  | ringBase half | expediteBase half | csbAddress half => cases half <;> decide
  | faultWord i => revert i; decide
  | apertureBase a half | apertureLimit a half => cases half <;> revert a <;> decide
  | apertureControl a => revert a; decide
  | control | command | status | acw | ringSize | ringProducer | ringConsumer | expediteSize | expediteProducer
  | expediteConsumer | linkDepth => decide

/-- The offset of a channel register, as a number: its block, and its place in the block (R175). -/
theorem Reg.toNat_offset_chan (c : Chan) (r : ChanReg) :
    (Reg.offset (.chan c r)).toNat = 0x800 + 0x100 * c.val + r.offset := by
  have hr := r.ofOffset_offset.2.1
  have hlt : 0x800 + 0x100 * c.val + r.offset < 2 ^ 12 := by omega
  exact (BitVec.toNat_ofNat ..).trans (Nat.mod_eq_of_lt hlt)

/-- The map of the window (R175): a register is found at its own offset. -/
theorem Reg.ofOffset_offset (r : Reg) : Reg.ofOffset r.offset = some r := by
  cases r with
  | eventBase half => cases half <;> rfl
  | chan c r =>
    obtain ⟨hfound, hr, -⟩ := r.ofOffset_offset
    have hplace : (0x800 + 0x100 * c.val + r.offset) % 0x100 = r.offset := by omega
    have hblock : (0x800 + 0x100 * c.val + r.offset - 0x800) / 0x100 % 4 = c.val := by omega
    simp only [Reg.ofOffset, Reg.toNat_offset_chan, hplace, hblock, hfound]
    rw [if_neg (by omega), if_neg (by simp; omega)]
    rfl
  | _ => rfl

theorem Reg.offset_mod_four (r : Reg) : r.offset.toNat % 4 = 0 := by
  cases r with
  | eventBase half => cases half <;> rfl
  | chan c r =>
    have hr := r.ofOffset_offset.2.2
    rw [Reg.toNat_offset_chan]
    omega
  | _ => rfl

/-- A register of the device block lies at no other offset (Table 12-1). -/
theorem Reg.toNat_offset_of_device {o : Nat} {r : Reg} (h : Reg.ofDeviceOffset o = some r) : r.offset.toNat = o := by
  unfold Reg.ofDeviceOffset at h
  split at h <;> cases h <;> rfl

/-- Only ID, Device Control and Device Status respond in Dormant and Waking (R168). -/
theorem Reg.offset_mem_of_respondsDormant {o : BitVec 12} {r : Reg} (h : Reg.ofOffset o = some r)
    (hr : r.respondsDormant = true) : o ∈ [0x000#12, 0x008#12, 0x00C#12] := by
  have ho : o = r.offset := by
    unfold Reg.ofOffset at h
    dsimp only at h
    split at h
    · exact BitVec.eq_of_toNat_eq (Reg.toNat_offset_of_device h).symm
    · split at h
      · cases h
      · obtain ⟨k, -, rfl⟩ := Option.map_eq_some_iff.1 h
        cases hr
  have hmem : r = .id ∨ r = .deviceControl ∨ r = .deviceStatus := by
    simpa [Reg.respondsDormant, or_assoc] using hr
  rcases hmem with rfl | rfl | rfl <;> rw [ho] <;> decide

/-! ### Reads -/

theorem State.readRegister_unmapped (s : State) {o : BitVec 12} (h : Reg.ofOffset o = none) : s.readRegister o = 0 := by
  simp only [State.readRegister, h]

theorem State.readRegister_asleep (ha : s.asleep = true) {o : BitVec 12} (ho : o ∉ [0x000#12, 0x008#12, 0x00C#12]) :
    s.readRegister o = 0 := by
  cases h : Reg.ofOffset o with
  | none => exact s.readRegister_unmapped h
  | some r =>
    have hr : r.respondsDormant = false := by
      rw [Bool.eq_false_iff]
      exact fun hr => ho (Reg.offset_mem_of_respondsDormant h hr)
    simp [State.readRegister, h, ha, hr]

theorem Reg.respondsDormant_of_offset_mem {o : BitVec 12} {r : Reg} (h : Reg.ofOffset o = some r)
    (ho : o ∈ [0x000#12, 0x008#12, 0x00C#12]) : r.respondsDormant = true := by
  simp only [List.mem_cons, List.not_mem_nil, or_false] at ho
  rcases ho with rfl | rfl | rfl <;> cases h <;> rfl

theorem State.readRegister_responds {o : BitVec 12} {r : Reg} (h : Reg.ofOffset o = some r)
    (hs : s.asleep = false ∨ o ∈ [0x000#12, 0x008#12, 0x00C#12]) : s.readRegister o = s.readReg r := by
  have hresponds : (s.asleep && !r.respondsDormant) = false := by
    rcases hs with ha | ho
    · rw [ha, Bool.false_and]
    · rw [Reg.respondsDormant_of_offset_mem h ho, Bool.not_true, Bool.and_false]
  simp [State.readRegister, h, hresponds]

/-! ### The fields of a word -/

/-- The number in the field of `width` bits from bit `place` of a word. -/
def fieldOf (w : Word32) (place width : Nat) : Nat := w.toNat / 2 ^ place % 2 ^ width

theorem testBit_fieldOf (w : Word32) (place width i : Nat) :
    (fieldOf w place width).testBit i = (decide (i < width) && w.getLsbD (place + i)) := by
  rw [fieldOf, Nat.testBit_mod_two_pow, Nat.testBit_div_two_pow, BitVec.testBit_toNat, Nat.add_comm]

/-- A bit of a word is its field of width 1. -/
theorem getElem_eq_iff_fieldOf (w : Word32) (i : Fin 32) (b : Bool) : w[i.val] = b ↔ fieldOf w i.val 1 = b.toNat := by
  have hbit : fieldOf w i.val 1 = (w[i.val]).toNat := by
    rw [fieldOf, ← BitVec.getLsbD_eq_getElem, ← BitVec.testBit_toNat, Nat.toNat_testBit, Nat.pow_one]
  rw [hbit]
  cases w[i.val] <;> cases b <;> decide

/-- The bits of a word at some places, from its fields of width 1. -/
theorem bits_of_fields {w : Word32} {ps : List (Fin 32 × Bool)}
    (h : ps.Forall fun p => fieldOf w p.1.val 1 = p.2.toNat) : ∀ p ∈ ps, w[p.1.val] = p.2 :=
  fun p hp => (getElem_eq_iff_fieldOf w p.1 p.2).2 (List.forall_iff_forall_mem.1 h p hp)

theorem fieldOf_or (x y : Word32) (place width : Nat) :
    fieldOf (x ||| y) place width = fieldOf x place width ||| fieldOf y place width := by
  refine Nat.eq_of_testBit_eq fun i => ?_
  simp only [testBit_fieldOf, Nat.testBit_or, BitVec.getLsbD_or, Bool.and_or_distrib_left]

theorem flagAt_eq_fieldAt (b : Bool) (place : Nat) : flagAt b place = fieldAt b.toNat place := by
  cases b
  · exact (BitVec.zero_shiftLeft _).symm
  · rfl

theorem getLsbD_fieldAt (n place i : Nat) :
    (fieldAt n place).getLsbD i = (decide (i < 32) && decide (place ≤ i) && n.testBit (i - place)) := by
  rw [fieldAt, BitVec.getLsbD_shiftLeft, BitVec.getLsbD_ofNat]
  by_cases hi : i < 32
  · have hlow : i - place < 32 := by omega
    by_cases hp : i < place
    · simp [hi, hp]
    · simp [hi, hlow, hp, Nat.le_of_not_lt hp]
  · simp [hi]

/-- A number that fits its field is read back from it. -/
theorem fieldOf_fieldAt_same {n place width : Nat} (hn : n < 2 ^ width) (hfits : place + width ≤ 32) :
    fieldOf (fieldAt n place) place width = n := by
  refine Nat.eq_of_testBit_eq fun i => ?_
  rw [testBit_fieldOf, getLsbD_fieldAt, Nat.add_sub_cancel_left]
  by_cases hi : i < width
  · have hbit : place + i < 32 := by omega
    simp [hi, hbit]
  · have hzero : n.testBit i = false :=
      Nat.testBit_lt_two_pow (hn.trans_le (Nat.pow_le_pow_right (by decide) (by omega)))
    simp [hi, hzero]

/-- A field lower than the one that holds a number is 0. -/
theorem fieldOf_fieldAt_below {n at_ place width : Nat} (h : place + width ≤ at_) :
    fieldOf (fieldAt n at_) place width = 0 := by
  refine Nat.eq_of_testBit_eq fun i => ?_
  rw [testBit_fieldOf, getLsbD_fieldAt, Nat.zero_testBit]
  by_cases hi : i < width
  · have hbelow : ¬ at_ ≤ place + i := by omega
    simp [hbelow]
  · simp [hi]

/-- A field higher than the one that holds a number is 0. -/
theorem fieldOf_fieldAt_above {n at_ place width : Nat} (h : at_ ≤ place) (hn : n < 2 ^ (place - at_)) :
    fieldOf (fieldAt n at_) place width = 0 := by
  refine Nat.eq_of_testBit_eq fun i => ?_
  have hzero : n.testBit (place + i - at_) = false :=
    Nat.testBit_lt_two_pow (hn.trans_le (Nat.pow_le_pow_right (by decide) (by omega)))
  rw [testBit_fieldOf, getLsbD_fieldAt, Nat.zero_testBit, hzero, Bool.and_false, Bool.and_false]

/-- A flag is read back as the bit at its place. -/
theorem fieldOf_flagAt_same (b : Bool) {place : Nat} (h : place < 32) : fieldOf (flagAt b place) place 1 = b.toNat := by
  rw [flagAt_eq_fieldAt, fieldOf_fieldAt_same b.toNat_lt h]

/-- A field beside the place of a flag is 0. -/
theorem fieldOf_flagAt_ne (b : Bool) {at_ place width : Nat} (h : place + width ≤ at_ ∨ at_ < place) :
    fieldOf (flagAt b at_) place width = 0 := by
  rw [flagAt_eq_fieldAt]
  rcases h with h | h
  · exact fieldOf_fieldAt_below h
  · have hfits : 2 ^ 1 ≤ 2 ^ (place - at_) := Nat.pow_le_pow_right (by decide) (by omega)
    exact fieldOf_fieldAt_above h.le (b.toNat_lt.trans_le hfits)

/-! ### Device Status -/

/-- There are 28 data tags and 4 control tags to retire (R154, R156). -/
theorem Link.retired_le (l : Link) (data : Bool) : l.retired data ≤ if data then 28 else 4 := by
  have hpool : (allTags.filter fun t => isDataTag t == data).length = if data then 28 else 4 := by
    cases data <;> decide
  rw [← hpool]
  exact (List.monotone_filter_right allTags fun t h => (Bool.and_eq_true_iff.1 h).1).length_le

/-- The codes of the power states, with Quiesced-Probe (R166, R177). -/
theorem State.powerCode_eq (s : State) : s.powerCode = match s.device.power with
    | .active => 0
    | .doze => 1
    | .quiescing => 2
    | .quiesced => if s.cache.sweep = none ∧ s.cache.evict = [] then 3 else 4
    | .dormantEntry => 5
    | .dormant => 6
    | .waking => 7 := by
  unfold State.powerCode
  cases s.device.power with
  | quiesced => cases s.cache.sweep <;> cases s.cache.evict <;> rfl
  | _ => rfl

theorem State.powerCode_lt (s : State) : s.powerCode < 2 ^ 3 := by
  unfold State.powerCode
  cases s.device.power with
  | quiesced => dsimp only; split <;> decide
  | _ => dsimp only; decide

/-- The fields of Device Status (R177). -/
theorem State.deviceStatus_fields (s : State) :
    let w := s.deviceStatus
    fieldOf w 0 3 = s.powerCode ∧ fieldOf w 3 1 = s.engine.fatal.toNat ∧ fieldOf w 4 1 = s.cache.flushDone.toNat ∧
      fieldOf w 5 3 = 0 ∧ fieldOf w 8 1 = s.device.partialWrite.toNat ∧ fieldOf w 9 1 = s.device.dormantAccess.toNat ∧
      fieldOf w 10 1 = s.device.powerRejected.toNat ∧ fieldOf w 11 1 = s.device.eventConfigRejected.toNat ∧
      fieldOf w 12 1 = s.device.eventHeadRejected.toNat ∧ fieldOf w 13 3 = 0 ∧ fieldOf w 16 5 = s.link.retired true ∧
      fieldOf w 21 3 = 0 ∧ fieldOf w 24 3 = s.link.retired false ∧ fieldOf w 27 5 = 0 := by
  have hpower := s.powerCode_lt
  have hdata : s.link.retired true ≤ 28 := s.link.retired_le true
  have hcontrol : s.link.retired false ≤ 4 := s.link.retired_le false
  simp (disch := omega) only [State.deviceStatus, fieldOf_or, fieldOf_flagAt_same, fieldOf_flagAt_ne,
    fieldOf_fieldAt_same, fieldOf_fieldAt_below, fieldOf_fieldAt_above, Nat.or_zero, Nat.zero_or, and_self]

/-! ### Channel Status and word 0 of the Fault Record -/

theorem ChState.code_lt (x : ChState) : x.code < 2 ^ 4 := by cases x <;> decide
theorem Reason.code_lt (x : Reason) : x.code < 2 ^ 5 := by cases x <;> decide
theorem ErrCause.code_lt (x : ErrCause) : x.code < 2 ^ 4 := by cases x <;> decide
theorem RingId.code_lt_four (x : RingId) : x.code < 2 ^ 2 := by cases x <;> decide
theorem FaultKind.code_lt (x : FaultKind) : x.code < 2 ^ 4 := by cases x <;> decide
theorem SubKind.code_lt (x : SubKind) : x.code < 2 ^ 4 := by cases x <;> decide
theorem FaultPhase.code_lt (x : FaultPhase) : x.code < 2 ^ 3 := by cases x <;> decide
theorem StreamId.code_lt (x : StreamId) : x.code < 2 ^ 3 := by cases x <;> decide

/-- The fields of Channel Status (R179). -/
theorem Channel.status_fields (h : Channel) :
    let w := h.status
    fieldOf w 0 4 = h.state.code ∧ fieldOf w 4 1 = h.heldQuiesce.toNat ∧ fieldOf w 5 1 = h.heldFatal.toNat ∧
      fieldOf w 6 1 = h.resetDraining.toNat ∧ fieldOf w 7 1 = h.pendingPark.toNat ∧ fieldOf w 8 5 = h.reason.code ∧
      fieldOf w 13 1 = h.doorbellOut.toNat ∧ fieldOf w 14 1 = h.acwRejected.toNat ∧ fieldOf w 15 1 = 0 ∧
      fieldOf w 16 4 = h.cause.code ∧ fieldOf w 20 12 = 0 := by
  have hstate := h.state.code_lt
  have hreason := h.reason.code_lt
  have hcause := h.cause.code_lt
  simp (disch := omega) only [Channel.status, fieldOf_or, fieldOf_flagAt_same, fieldOf_flagAt_ne,
    fieldOf_fieldAt_same, fieldOf_fieldAt_below, fieldOf_fieldAt_above, Nat.or_zero, Nat.zero_or, and_self]

/-- The fields of word 0 of the Fault Record (R180). -/
theorem FaultRec.word_zero_fields (f : FaultRec) :
    let w := f.word 0
    fieldOf w 0 1 = f.valid.toNat ∧ fieldOf w 1 2 = f.ring.code ∧ fieldOf w 3 1 = 0 ∧ fieldOf w 4 4 = f.kind.code ∧
      fieldOf w 8 4 = f.sub.code ∧ fieldOf w 12 3 = f.phase.code ∧ fieldOf w 15 1 = 0 ∧ fieldOf w 16 3 = f.stream.code ∧
      fieldOf w 19 5 = 0 ∧ fieldOf w 24 7 = f.conds.toNat ∧ fieldOf w 31 1 = 0 := by
  have hring := f.ring.code_lt_four
  have hkind := f.kind.code_lt
  have hsub := f.sub.code_lt
  have hphase := f.phase.code_lt
  have hstream := f.stream.code_lt
  have hconds := f.conds.isLt
  simp (disch := omega) only [FaultRec.word, fieldOf_or, fieldOf_flagAt_same, fieldOf_flagAt_ne,
    fieldOf_fieldAt_same, fieldOf_fieldAt_below, fieldOf_fieldAt_above, Nat.or_zero, Nat.zero_or, and_self]

/-! ### What every register holds -/

/-- Two flags at bits 0 and 1 of a word. -/
theorem flagAt_or_flagAt (a b : Bool) : flagAt a 0 ||| flagAt b 1 = BitVec.ofNat 32 (a.toNat + 2 * b.toNat) := by
  cases a <;> cases b <;> decide

/-- Settles O14: the map is its own inverse on the registers, and the packed words are read field by field. -/
theorem registerMapAndReads : Obligations.RegisterMapAndReads := by
  refine ⟨fun r => ⟨r.ofOffset_offset, r.offset_mod_four⟩, fun s o => ⟨s.readRegister_unmapped,
    fun ha => State.readRegister_asleep ha, fun r => State.readRegister_responds, ?_⟩⟩
  intro field bits word retired d status
  refine ⟨⟨rfl, rfl, rfl, flagAt_or_flagAt .., ?_, rfl, rfl, ?_, fun _ => rfl, rfl, rfl, rfl, rfl, rfl, rfl, rfl⟩,
    ?_, fun c => ?_⟩
  · show fieldAt s.device.cause.code 0 = _
    cases s.device.cause <;> rfl
  · show flagAt s.cache.prefetchOn 0 = _
    cases s.cache.prefetchOn <;> rfl
  · obtain ⟨hpower, hfatal, hflush, hpad5, hpartial, hdormant, hrejected, hconfig, hhead, hpad13, hdata, hpad21,
      hcontrol, hpad27⟩ := s.deviceStatus_fields
    exact ⟨hpower.trans s.powerCode_eq,
      bits_of_fields ⟨hfatal, hflush, hpartial, hdormant, hrejected, hconfig, hhead⟩, hdata, hcontrol, hpad5, hpad13,
      hpad21, hpad27⟩
  · intro h f r
    refine ⟨?_, ?_, ?_⟩
    · exact ⟨flagAt_or_flagAt .., rfl, rfl, fun _ => ⟨rfl, rfl, rfl⟩, rfl, rfl, rfl, rfl, rfl, rfl, rfl,
        fun a => ⟨fun _ => ⟨rfl, rfl⟩, rfl⟩⟩
    · obtain ⟨hstate, hquiesce, hfatal, hdraining, hpark, hreason, hdoorbell, hacw, hpad15, hcause, hpad20⟩ :=
        h.status_fields
      exact ⟨hstate.trans (by cases h.state <;> rfl),
        bits_of_fields ⟨hquiesce, hfatal, hdraining, hpark, hdoorbell, hacw⟩,
        hreason.trans (by cases h.reason <;> rfl), hcause.trans (by cases h.cause <;> rfl), hpad15, hpad20⟩
    · obtain ⟨hvalid, hring, hpad3, hkind, hsub, hphase, hpad15, hstream, hpad19, hconds, hpad31⟩ := f.word_zero_fields
      exact ⟨bits_of_fields hvalid, hring.trans (by cases f.ring <;> rfl), hkind.trans (by cases f.kind <;> rfl),
        hsub.trans (by cases f.sub <;> rfl), hphase.trans (by cases f.phase <;> rfl),
        hstream.trans (by cases f.stream <;> rfl), hconds, hpad3, hpad15, hpad19, hpad31, rfl, rfl, rfl, rfl, rfl, rfl⟩

end Sys2Proof.Machine
end

section
/-! PROOF. PARTIAL_REGISTER_WRITE and REGISTER_WRITE (R157, R158, R161, R175, R176, R178; logs 6, 23 and 31): a full
write to the offset of a register is a write to that register, so what is left to say is that the word of the other
row of the register has the same effect. -/
namespace Sys2Proof.Machine
variable {s : State} {r : Reg} {v w : Word32} {o : BitVec 12} {i : Instr}

/-! ### Words with the same effect -/

/-- A word that has the bit already is the word of the row that sets it (log 31). -/
theorem withBit_of_set (k : Fin 32) (h : v[k.val] = true) : withBit v k.val = v := by
  refine BitVec.eq_of_getElem_eq fun j hj => ?_
  refine (getElem_withBit v k ⟨j, hj⟩).trans ?_
  by_cases hjk : (⟨j, hj⟩ : Fin 32) = k
  · subst hjk; simp [h]
  · simp [hjk]

/-- A word whose bit 0 is clear already is the word of QUIESCE_RELEASE (log 31). -/
theorem clearBit_of_clear (h : v[0] = false) : v &&& ~~~1#32 = v := by
  refine BitVec.eq_of_getElem_eq fun j hj => ?_
  refine (getElem_clearBit v ⟨j, hj⟩).trans ?_
  by_cases hj0 : j = 0
  · subst hj0; simp [h]
  · simp [Fin.ext_iff, hj0]

/-- Device Control acts on six bits of the word alone (R176). -/
theorem State.deviceControl_congr (s : State) (hquiesce : dcQuiesce v = dcQuiesce w)
    (hirq : dcIrqEnable v = dcIrqEnable w) (hdormant : dcDormant v = dcDormant w) (hwake : dcWake v = dcWake w)
    (hsoft : dcSoftInit v = dcSoftInit w) (hreset : dcDeviceReset v = dcDeviceReset w) :
    s.deviceControl v = s.deviceControl w := by
  simp only [State.deviceControl, State.controlAccepted, State.controlEffect, hquiesce, hirq, hdormant, hwake, hsoft,
    hreset]

/-- Cache Control acts on two bits of the word alone (R176). -/
theorem State.writeCacheControl_congr (s : State) (hprefetch : v[0] = w[0]) (hflush : v[1] = w[1]) :
    s.writeCacheControl v = s.writeCacheControl w := by
  simp only [State.writeCacheControl, hprefetch, hflush]

/-- Two words with the same effect on a register are the same RegWrite of it, also where it does not respond. -/
theorem State.offer_congr (h : s.begin.wakeDoze.writeReg r v = s.begin.wakeDoze.writeReg r w) :
    s.offer (some r) v = s.offer (some r) w := by
  simp only [State.offer, h]

/-! ### A write to the offset of a register -/

/-- A RegWrite with fewer than four byte enables (R158). -/
theorem State.offerPartial_eq (s : State) :
    s.offerPartial = { s.acknowledged with device := { s.device.touched with partialWrite := true } } := by
  rw [State.offerPartial, State.begin_wakeDoze]
  rfl

/-- A full RegWrite to the offset of a register is a write to that register (R175). -/
theorem exec_registerWrite_at (ho : o = r.offset) :
    exec (.registerWrite o v) s = .next (s.offer (some r) v).settleClose := by
  rw [exec_registerWrite, execRegisterWrite, ho, Reg.ofOffset_offset]

/-- A REGISTER_WRITE in a power state in which every register responds (R158). -/
theorem exec_registerWrite_awake {u : State} (ha : s.asleep = false) (ho : o = r.offset)
    (hu : (State.writeReg { s.fresh with device := s.device.touched } r v).send .regDone = u) :
    exec (.registerWrite o v) s = .next u.settleClose :=
  (exec_registerWrite_at ho).trans (congrArg Host.Outcome.next (State.regWriteSettle_awake ha hu))

/-- A read-only register (R175). -/
theorem exec_registerWrite_readOnly (ha : s.asleep = false) (hr : ∀ u : State, u.writeReg r v = u) :
    exec (.registerWrite r.offset v) s = .next s.acknowledged.settleClose :=
  exec_registerWrite_awake ha rfl (congrArg (State.send · .regDone) (hr _))

/-- REGISTER_WRITE lets the part go on after the write that the row `i` makes of the same register (log 6). -/
def State.GoesOn (s : State) (o : BitVec 12) (v : Word32) (i : Instr) : Prop :=
  ∃ u : State, exec i s = .next u.close ∧ exec (.registerWrite o v) s = .next u.settleClose

/-- The word that the row `i` writes has the effect of the word `v` on the register (log 31). -/
theorem goesOn_of_regWrite (ho : o = r.offset) (hi : exec i s = .next (s.regWrite r w))
    (hw : s.begin.wakeDoze.writeReg r v = s.begin.wakeDoze.writeReg r w) : s.GoesOn o v i :=
  ⟨s.offer (some r) w, hi, by rw [exec_registerWrite_at ho, State.offer_congr hw]⟩

/-- The row `i` writes the word `v` itself. -/
theorem goesOn_of_row (r : Reg) (ho : o = r.offset) (hi : exec i s = .next (s.regWrite r v)) : s.GoesOn o v i :=
  goesOn_of_regWrite ho hi rfl

/-- A row that lets the part go on is the REGISTER_WRITE of its register. -/
theorem exec_registerWrite_eq (ho : o = r.offset) (hi : exec i s = .next (s.regWriteSettle r w))
    (hw : s.begin.wakeDoze.writeReg r v = s.begin.wakeDoze.writeReg r w) : exec (.registerWrite o v) s = exec i s := by
  rw [exec_registerWrite_at ho, State.offer_congr hw, hi]
  rfl

/-- A Device Control word that has bit `k` is the row that sets it (R176; log 31). -/
theorem exec_registerWrite_of_bit (k : Fin 32) (hk : v[k.val] = true)
    (hi : exec i s = .next (s.regWriteSettle .deviceControl (withBit v k.val))) :
    exec (.registerWrite 0x008#12 v) s = exec i s :=
  exec_registerWrite_eq rfl hi (by rw [withBit_of_set k hk])

/-- The word of INTERRUPT_ENABLE has the effect of every word that keeps Quiesce and sets no action bit
(R160; log 31). -/
theorem State.deviceControl_noAction (hq : v[0] = s.device.quiesce) (h₄ : v[4] = false) (h₅ : v[5] = false)
    (h₆ : v[6] = false) (h₇ : v[7] = false) :
    s.deviceControl v = s.deviceControl (flagAt s.device.quiesce 0 ||| flagAt v[1] 1) := by
  obtain ⟨hquiesce, hirq, hdormant, hwake, hsoft, hreset⟩ := interruptWord_bits s.device.quiesce v[1]
  exact s.deviceControl_congr (hq.trans hquiesce.symm) hirq.symm (h₄.trans hdormant.symm) (h₅.trans hwake.symm)
    (h₆.trans hsoft.symm) (h₇.trans hreset.symm)

/-- The word of COMPACT has the effect of every word with the same bit 1 (R178; log 31). -/
theorem State.writeReg_control (u : State) (c : Chan) (v : Word32) :
    u.writeReg (.chan c .control) v = u.writeReg (.chan c .control) (flagAt v[1] 1) := by
  have hbit (on : Bool) : (flagAt on 1)[1] = on := by cases on <;> decide
  show u.modCh c (·.writeCompact v[1]) = u.modCh c (·.writeCompact (flagAt v[1] 1)[1])
  rw [hbit]

/-- The offset of the high word of an aperture's base or limit, beside that of the low word (Table 12-2). -/
theorem apertureHigh_offset (c : Chan) (a : WayId) :
    BitVec.ofNat 12 (0x800 + 0x100 * c.val + (0x84 + 0x20 * a.val)) = (Reg.chan c (.apertureBase a .high)).offset ∧
      BitVec.ofNat 12 (0x800 + 0x100 * c.val + (0x8C + 0x20 * a.val)) =
        (Reg.chan c (.apertureLimit a .high)).offset := by
  have hplace (k : Nat) : k + 4 + 0x20 * a.val = k + 0x20 * a.val + 4 := Nat.add_right_comm ..
  exact ⟨congrArg (fun k => BitVec.ofNat 12 (0x800 + 0x100 * c.val + k)) (hplace 0x80),
    congrArg (fun k => BitVec.ofNat 12 (0x800 + 0x100 * c.val + k)) (hplace 0x88)⟩

/-- Settles O26: each row is a RegWrite of one register, found at its offset by `exec_registerWrite_at`. -/
theorem generalRegisterWrites : Obligations.GeneralRegisterWrites := by
  intro s o enables v
  refine ⟨?_, fun ha => ⟨fun hnone => ?_, fun c i r hr => ?_, ?_, ?_⟩, fun c a => ?_⟩
  · rw [exec_partialRegisterWrite, execPartialRegisterWrite, State.offerPartial_eq]
  · rw [exec_registerWrite, execRegisterWrite, hnone, State.offer_none ha]
  · refine exec_registerWrite_readOnly ha fun u => ?_
    simp only [List.mem_cons, List.not_mem_nil, or_false] at hr
    rcases hr with rfl | rfl | rfl | rfl | rfl | rfl | rfl | rfl | rfl <;> rfl
  · exact exec_registerWrite_awake (r := .responseTimeout) ha rfl rfl
  · exact exec_registerWrite_awake (r := .dozeDelay) ha rfl rfl
  intro at_ is goesOn
  obtain ⟨hon, hplain, hflushOn, hflush⟩ := cacheWord_bits v[0]
  obtain ⟨hbaseHigh, hlimitHigh⟩ := apertureHigh_offset c a
  refine ⟨⟨?_, ?_, ?_⟩, fun p hp => ?_, ⟨?_, ?_, ?_, ?_, ?_, fun h => ?_, fun hq h₄ h₅ h₆ h₇ => ?_⟩,
    ⟨fun h => ?_, fun h => ?_⟩, ?_⟩
  · exact exec_registerWrite_eq (r := .chan c .ringProducer) rfl rfl rfl
  · exact exec_registerWrite_eq (r := .chan c .expediteProducer) rfl rfl rfl
  · exact exec_registerWrite_eq (r := .eventSize) rfl rfl rfl
  · simp only [List.mem_cons, List.not_mem_nil, or_false] at hp
    rcases hp with rfl | rfl | rfl | rfl | rfl | rfl | rfl | rfl | rfl <;>
      exact exec_registerWrite_eq (r := .chan c .command) rfl rfl rfl
  · exact fun h => exec_registerWrite_of_bit 7 h rfl
  · exact fun h => exec_registerWrite_of_bit 6 h rfl
  · exact fun h => exec_registerWrite_of_bit 5 h rfl
  · exact fun h => exec_registerWrite_of_bit 4 h rfl
  · exact fun h => exec_registerWrite_of_bit 0 h rfl
  · exact exec_registerWrite_eq (r := .deviceControl) rfl rfl (by rw [clearBit_of_clear h])
  · exact goesOn_of_regWrite (r := .deviceControl) rfl rfl
      (State.deviceControl_noAction (s := s.begin.wakeDoze) hq h₄ h₅ h₆ h₇)
  · exact exec_registerWrite_eq (r := .cacheControl) rfl rfl
      (State.writeCacheControl_congr _ hflushOn.symm (h.trans hflush.symm))
  · exact goesOn_of_regWrite (r := .cacheControl) rfl rfl
      (State.writeCacheControl_congr _ hon.symm (h.trans hplain.symm))
  · simp only [List.forall_mem_cons]
    exact ⟨goesOn_of_regWrite (r := .chan c .control) rfl rfl (State.writeReg_control ..),
      goesOn_of_row (.chan c .status) rfl rfl, goesOn_of_row (.chan c .acw) rfl rfl,
      goesOn_of_row (.chan c (.ringBase .low)) rfl rfl, goesOn_of_row (.chan c (.ringBase .high)) rfl rfl,
      goesOn_of_row (.chan c .ringSize) rfl rfl,
      goesOn_of_row (.chan c (.expediteBase .low)) rfl rfl, goesOn_of_row (.chan c (.expediteBase .high)) rfl rfl,
      goesOn_of_row (.chan c .expediteSize) rfl rfl,
      goesOn_of_row (.chan c (.csbAddress .low)) rfl rfl, goesOn_of_row (.chan c (.csbAddress .high)) rfl rfl,
      goesOn_of_row (.chan c (.apertureBase a .low)) rfl rfl,
      goesOn_of_row (.chan c (.apertureBase a .high)) hbaseHigh rfl,
      goesOn_of_row (.chan c (.apertureLimit a .low)) rfl rfl,
      goesOn_of_row (.chan c (.apertureLimit a .high)) hlimitHigh rfl,
      goesOn_of_row (.chan c (.apertureControl a)) rfl rfl, goesOn_of_row .deviceStatus rfl rfl,
      goesOn_of_row (.eventBase .low) rfl rfl, goesOn_of_row (.eventBase .high) rfl rfl,
      goesOn_of_row .eventHead rfl rfl, goesOn_of_row .lostEvents rfl rfl, goesOn_of_row .lateCount rfl rfl,
      goesOn_of_row .lostWriteBacks rfl rfl, goesOn_of_row .prefetchFails rfl rfl,
      fun _ h => absurd h List.not_mem_nil⟩

end Sys2Proof.Machine
end

section
/-! PROOF. The power controller: the acceptance table of Device Control (R160; log 31) with the rows QUIESCE, DORMANT
and WAKE, the ends of Quiescing and Waking (R163, R164, R168; log 27), Doze (R161; log 2), and the writes that Dormant
and Waking drop (R168). -/
namespace Sys2Proof.Machine
variable {s u : State} {r : Reg} {v w : Word32}

/-! ### The Doze condition and the conditions of R164 -/

theorem allChans_all_iff {p : Chan → Bool} : allChans.all p = true ↔ ∀ c, p c = true := by
  simp only [List.all_eq_true, mem_allChans, true_imp_iff]

theorem Link.still_iff (l : Link) : l.still = true ↔ l.outstanding = [] ∧ l.waiting = [] := by
  simp only [Link.still, Bool.and_eq_true, List.isEmpty_iff]

/-- A channel with nothing to hold, or one that is held where a beat or a descriptor would begin (R164). -/
theorem Channel.quiet_iff (h : Channel) : h.quiet = true ↔ h.state ∈ [.disabled, .idle, .parked, .faulted, .error] ∨
    h.state ∈ [.running, .waiting, .draining, .expediting] ∧ (h.heldQuiesce = true ∨ h.heldFatal = true) := by
  unfold Channel.quiet Channel.held
  cases h.state <;> simp

/-- The conditions of R164. -/
theorem State.isStill_iff (s : State) : s.isStill = true ↔
    (∀ c, (s.ch c).progressOwed = false ∧ ((s.ch c).state ∈ [.disabled, .idle, .parked, .faulted, .error] ∨
        (s.ch c).state ∈ [.running, .waiting, .draining, .expediting] ∧
          ((s.ch c).heldQuiesce = true ∨ (s.ch c).heldFatal = true))) ∧
      s.beat = none ∧ s.link.outstanding = [] ∧ s.link.waiting = [] ∧ s.cache.evict = [] ∧ s.cache.sweep = none ∧
      s.cache.queue = [] := by
  simp only [State.isStill, Bool.and_eq_true, allChans_all_iff, Bool.not_eq_true', Channel.quiet_iff, Link.still_iff,
    Option.isNone_iff_eq_none, List.isEmpty_iff, and_assoc]

/-- The Doze condition (R161). -/
theorem State.dozeCondition_iff (s : State) : s.dozeCondition = true ↔
    s.device.power = .active ∧ s.device.quiesce = false ∧
      (∀ c, (s.ch c).state ∈ [.disabled, .idle, .parked, .faulted, .error] ∧ (s.ch c).resetDraining = false) ∧
      s.link.outstanding = [] ∧ s.link.waiting = [] ∧ s.cache.evict = [] ∧ s.cache.sweep = none ∧ s.cache.queue = [] ∧
      s.engine.fifo = [] ∧ s.engine.lossMark = none := by
  simp only [State.dozeCondition, Bool.and_eq_true, allChans_all_iff, Bool.not_eq_true', Bool.or_eq_true, beq_iff_eq,
    Link.still_iff, Option.isNone_iff_eq_none, List.isEmpty_iff, List.mem_cons, List.not_mem_nil, or_false, or_assoc,
    and_assoc]

/-- Settles O44: the Doze condition, read as `State.dozeCondition_iff` states it, decides. -/
theorem doze : Obligations.Doze := by
  intro s
  rw [exec_doze, execDoze]
  refine ⟨fun hp hq hdelay hch hout hwait hevict hsweep hqueue hfifo hmark => ?_, fun hfails => ?_⟩
  · have hdoze := s.dozeCondition_iff.2 ⟨hp, hq, hch, hout, hwait, hevict, hsweep, hqueue, hfifo, hmark⟩
    rw [hdoze, bne_iff_ne.2 hdelay]
    rfl
  · have hstays : ¬ (s.dozeCondition && s.device.dozeDelay != 0) = true := by
      rw [Bool.and_eq_true, bne_iff_ne, s.dozeCondition_iff]
      rintro ⟨⟨hp, hq, hch, hout, hwait, hevict, hsweep, hqueue, hfifo, hmark⟩, hdelay⟩
      have hch' : ¬ ∃ c, (s.ch c).state ∉ [.disabled, .idle, .parked, .faulted, .error] ∨
          (s.ch c).resetDraining = true := fun ⟨c, hc⟩ => hc.elim (absurd (hch c).1) (Bool.eq_false_iff.1 (hch c).2)
      simp only [hp, hq, hch', hout, hwait, hevict, hsweep, hqueue, hfifo, hmark, hdelay, ne_eq, not_true_eq_false,
        Bool.false_eq_true, or_self] at hfails
    rw [if_neg hstays]
    rfl

/-! ### Writes that Dormant and Waking drop -/

theorem State.regWrite_asleep (ha : s.asleep = true) (hr : r ≠ .deviceControl) : s.regWrite r v =
    State.close { s.acknowledged with device := { s.device.touched with dormantAccess := true } } := by
  rw [State.regWrite, State.offer_asleep ha (by simpa using hr)]

theorem State.regWriteSettle_asleep (ha : s.asleep = true) (hr : r ≠ .deviceControl) : s.regWriteSettle r v =
    State.settleClose { s.acknowledged with device := { s.device.touched with dormantAccess := true } } := by
  rw [State.regWriteSettle, State.offer_asleep ha (by simpa using hr)]

/-- Settles O27: each row is a RegWrite of a register other than Device Control. -/
theorem dormantDropsWrites : Obligations.DormantDropsWrites := by
  intro s c a half on o v ha u
  have hclose (r : Reg) (x : Word32) (hr : r ≠ .deviceControl) :
      Host.Outcome.next (φ := Fault) (ρ := Refusal) (s.regWrite r x) = .next u.close :=
    congrArg _ (State.regWrite_asleep ha hr)
  have hsettle (r : Reg) (x : Word32) (hr : r ≠ .deviceControl) :
      Host.Outcome.next (φ := Fault) (ρ := Refusal) (s.regWriteSettle r x) = .next u.settleClose :=
    congrArg _ (State.regWriteSettle_asleep ha hr)
  have hcommand (cmd : ChanCmd) := hsettle (.chan c .command) cmd.code nofun
  refine ⟨?_, ?_, fun ho => ?_⟩
  · simp only [List.forall_mem_cons]
    exact ⟨hclose (.chan c .ringSize) v nofun, hclose (.chan c .expediteSize) v nofun,
      hclose (.chan c (.ringBase half)) v nofun, hclose (.chan c (.expediteBase half)) v nofun,
      hclose (.chan c .control) _ nofun, hclose (.chan c (.csbAddress half)) v nofun,
      hclose (.chan c (.apertureBase a half)) v nofun, hclose (.chan c (.apertureLimit a half)) v nofun,
      hclose (.chan c (.apertureControl a)) v nofun, hclose (.chan c .acw) v nofun, hclose (.chan c .status) v nofun,
      hclose (.eventBase half) v nofun, hclose .eventHead v nofun, hclose .lostEvents v nofun,
      hclose .lateCount v nofun, hclose .lostWriteBacks v nofun, hclose .prefetchFails v nofun,
      hclose .deviceStatus v nofun, hclose .cacheControl _ nofun, fun _ h => absurd h List.not_mem_nil⟩
  · simp only [List.forall_mem_cons]
    exact ⟨hsettle (.chan c .ringProducer) v nofun, hsettle (.chan c .expediteProducer) v nofun,
      hsettle .eventSize v nofun, hsettle .cacheControl _ nofun, hcommand .enable, hcommand .disable, hcommand .reset,
      hcommand .park, hcommand .unpark, hcommand .resumeRetry, hcommand .resumeSkip, hcommand .resumeSubstitute,
      hcommand .resumeAbandon, fun _ h => absurd h List.not_mem_nil⟩
  · have hr : Reg.ofOffset o ≠ some .deviceControl := fun h => ho (Reg.offset_of_deviceControl h)
    rw [exec_registerWrite, execRegisterWrite, State.offer_asleep ha hr]

/-! ### The acceptance table of Device Control -/

/-- A write without Device Reset is accepted: the five rows of the table of R160, and a write that leaves the Quiesce
bit unchanged and sets no action bit.  `q` is that bit, `p` the power state and `fatal` the Fatal condition at
the write. -/
inductive ControlAccepts (q fatal : Bool) (p : PowerState) (w : Word32) : Prop where
  | quiesce (h₄ : w[4] = false) (h₅ : w[5] = false) (h₆ : w[6] = false) (h₀ : w[0] = true) (hq : q = false)
      (hp : p = .active ∨ p = .doze)
  | release (h₄ : w[4] = false) (h₅ : w[5] = false) (h₆ : w[6] = false) (h₀ : w[0] = false) (hq : q = true)
      (hp : p = .quiescing ∨ p = .quiesced)
  | dormant (h₄ : w[4] = true) (h₅ : w[5] = false) (h₆ : w[6] = false) (h₀ : w[0] = q) (hp : p = .quiesced)
      (hf : fatal = false)
  | wake (h₄ : w[4] = false) (h₅ : w[5] = true) (h₆ : w[6] = false) (h₀ : w[0] = q) (hp : p = .dormant)
  | softInit (h₄ : w[4] = false) (h₅ : w[5] = false) (h₆ : w[6] = true) (hp : p ≠ .dormant ∧ p ≠ .waking)
  | unchanged (h₄ : w[4] = false) (h₅ : w[5] = false) (h₆ : w[6] = false) (h₀ : w[0] = q)

/-- The part as a RegWrite is judged: Doze has ended (R162). -/
def State.woken (s : State) : State := { s.fresh with device := s.device.touched }

theorem State.begin_wakeDoze_eq_woken (s : State) : s.begin.wakeDoze = s.woken := s.begin_wakeDoze

@[simp] theorem State.woken_quiesce (s : State) : s.woken.device.quiesce = s.device.quiesce := rfl
@[simp] theorem State.woken_fatal (s : State) : s.woken.engine.fatal = s.engine.fatal := rfl

/-- A RegWrite ends Doze, and no other power state, before it is judged (R161, R162). -/
theorem State.woken_power (s : State) (p : PowerState) : s.woken.device.power = p ↔
    if p = .active then s.device.power = .active ∨ s.device.power = .doze else s.device.power = p ∧ p ≠ .doze := by
  show (if s.device.power = .doze then PowerState.active else s.device.power) = p ↔ _
  split
  case isTrue h => cases p <;> simp [h]
  case isFalse h => cases p <;> simp [h]

/-- A write with no action bit: whether it changes Quiesce, and which way (R160). -/
theorem State.woken_controlAccepted_noAction (h₄ : w[4] = false) (h₅ : w[5] = false) (h₆ : w[6] = false) :
    s.woken.controlAccepted w = true ↔ w[0] = s.device.quiesce ∨
      (w[0] = true ∧ s.device.quiesce = false ∧ (s.device.power = .active ∨ s.device.power = .doze)) ∨
      (w[0] = false ∧ s.device.quiesce = true ∧ (s.device.power = .quiescing ∨ s.device.power = .quiesced)) := by
  simp only [State.controlAccepted, dcDormant, dcWake, dcSoftInit, dcQuiesce, h₄, h₅, h₆, State.woken_quiesce]
  rcases Bool.eq_false_or_eq_true w[0] with h₀ | h₀ <;>
    rcases Bool.eq_false_or_eq_true s.device.quiesce with hq | hq <;> simp [h₀, hq, State.woken_power]

/-- The model judges a write by the table. -/
theorem State.woken_controlAccepted_iff (s : State) (w : Word32) : s.woken.controlAccepted w = true ↔
    ControlAccepts s.device.quiesce s.engine.fatal s.device.power w := by
  refine ⟨fun h => ?_, fun h => ?_⟩
  · by_cases hplain : w[4] = false ∧ w[5] = false ∧ w[6] = false
    · obtain ⟨h₄, h₅, h₆⟩ := hplain
      rcases (State.woken_controlAccepted_noAction h₄ h₅ h₆).1 h with h₀ | ⟨h₀, hq, hp⟩ | ⟨h₀, hq, hp⟩
      · exact .unchanged h₄ h₅ h₆ h₀
      · exact .quiesce h₄ h₅ h₆ h₀ hq hp
      · exact .release h₄ h₅ h₆ h₀ hq hp
    · -- A word that sets two action bits is not accepted: one word for each action bit is left.
      simp only [State.controlAccepted, dcDormant, dcWake, dcSoftInit, dcQuiesce] at h
      cases h₄ : w[4] <;> cases h₅ : w[5] <;> cases h₆ : w[6] <;> simp [h₄, h₅, h₆, State.woken_power] at h hplain
      · exact .softInit h₄ h₅ h₆ h
      · obtain ⟨h₀, hp⟩ := h
        exact .wake h₄ h₅ h₆ h₀ hp
      · obtain ⟨h₀, hp, hf⟩ := h
        exact .dormant h₄ h₅ h₆ h₀ hp hf
  · cases h with
    | quiesce h₄ h₅ h₆ h₀ hq hp => exact (State.woken_controlAccepted_noAction h₄ h₅ h₆).2 (.inr (.inl ⟨h₀, hq, hp⟩))
    | release h₄ h₅ h₆ h₀ hq hp => exact (State.woken_controlAccepted_noAction h₄ h₅ h₆).2 (.inr (.inr ⟨h₀, hq, hp⟩))
    | unchanged h₄ h₅ h₆ h₀ => exact (State.woken_controlAccepted_noAction h₄ h₅ h₆).2 (.inl h₀)
    | dormant h₄ h₅ h₆ h₀ hp hfatal =>
      simp [State.controlAccepted, dcDormant, dcWake, dcSoftInit, dcQuiesce, h₄, h₅, h₆, h₀, hfatal,
        State.woken_power, hp]
    | wake h₄ h₅ h₆ h₀ hp =>
      simp [State.controlAccepted, dcDormant, dcWake, dcSoftInit, dcQuiesce, h₄, h₅, h₆, h₀, State.woken_power, hp]
    | softInit h₄ h₅ h₆ hp =>
      simpa [State.controlAccepted, dcDormant, dcWake, dcSoftInit, h₄, h₅, h₆, State.woken_power] using hp

/-- An accepted write of Device Control that changes the power controller alone. -/
theorem State.regWriteSettle_accepted {d : Device} (h₇ : v[7] = false)
    (hv : ControlAccepts s.device.quiesce s.engine.fatal s.device.power v)
    (hd : s.woken.controlEffect v = { s.fresh with device := d }) :
    s.regWriteSettle .deviceControl v = State.settleClose { s.acknowledged with device := d } := by
  have hreset : ¬ dcDeviceReset v = true := Bool.eq_false_iff.1 h₇
  rw [State.regWriteSettle, State.offer_deviceControl, State.begin_wakeDoze_eq_woken, State.deviceControl,
    if_neg hreset, if_pos ((s.woken_controlAccepted_iff v).2 hv), hd]
  rfl

/-- Every other write of Device Control without Device Reset sets power-request-rejected alone (R160). -/
theorem State.regWriteSettle_rejected (h₇ : v[7] = false)
    (hv : ¬ ControlAccepts s.device.quiesce s.engine.fatal s.device.power v) :
    s.regWriteSettle .deviceControl v =
      State.settleClose { s.acknowledged with device := { s.device.touched with powerRejected := true } } := by
  have hreset : ¬ dcDeviceReset v = true := Bool.eq_false_iff.1 h₇
  rw [State.regWriteSettle, State.offer_deviceControl, State.begin_wakeDoze_eq_woken, State.deviceControl,
    if_neg hreset, if_neg (mt (s.woken_controlAccepted_iff v).1 hv)]
  rfl

/-- Settles O32: in each row of the table all nine lines are false. -/
theorem powerRequestRejected : Obligations.PowerRequestRejected := by
  intro s w h₇ p changes hlines
  refine (exec_registerWrite_at (r := .deviceControl) rfl).trans
    (congrArg Host.Outcome.next (State.regWriteSettle_rejected h₇ fun haccepts => ?_))
  cases haccepts with
  | quiesce h₄ h₅ h₆ h₀ _ hp =>
    simp only [h₄, h₅, h₆, h₀, Bool.false_eq_true, Bool.true_eq_false, false_and, and_false, or_self, false_or,
      or_false, true_and] at hlines
    obtain ⟨-, hfirst, hsecond⟩ := hlines
    exact hp.elim hfirst hsecond
  | release h₄ h₅ h₆ h₀ _ hp =>
    simp only [h₄, h₅, h₆, h₀, Bool.false_eq_true, false_and, and_false, or_self, false_or, true_and] at hlines
    obtain ⟨-, hfirst, hsecond⟩ := hlines
    exact hp.elim hfirst hsecond
  | dormant h₄ h₅ h₆ h₀ hp hf => simp [h₄, h₅, h₆, h₀, hp, hf, p, changes] at hlines
  | wake h₄ h₅ h₆ h₀ hp => simp [h₄, h₅, h₆, h₀, hp, p, changes] at hlines
  | softInit h₄ h₅ h₆ hp => simp [h₄, h₅, h₆, hp, p] at hlines
  | unchanged h₄ h₅ h₆ h₀ => simp [h₄, h₅, h₆, h₀, changes] at hlines

/-! ### The rows QUIESCE, DORMANT and WAKE -/

theorem getElem_withBit_same (w : Word32) (k : Fin 32) : (withBit w k.val)[k.val] = true := by
  simp [getElem_withBit]

theorem getElem_withBit_ne (w : Word32) {k i : Fin 32} (h : i ≠ k) : (withBit w k.val)[i.val] = w[i.val] := by
  simp [getElem_withBit, h]

/-- Interrupt Enable alone (R160). -/
theorem State.regWriteSettle_unchanged (h₄ : v[4] = false) (h₅ : v[5] = false) (h₆ : v[6] = false) (h₇ : v[7] = false)
    (h₀ : v[0] = s.device.quiesce) : s.regWriteSettle .deviceControl v =
      State.settleClose { s.acknowledged with device := { s.device.touched with irqEnable := v[1] } } := by
  refine State.regWriteSettle_accepted h₇ (.unchanged h₄ h₅ h₆ h₀) ?_
  simp only [State.controlEffect, dcQuiesce, dcIrqEnable, dcDormant, dcWake, dcSoftInit, State.woken_quiesce, h₀,
    h₄, h₅, h₆, bne_self_eq_false, Bool.false_eq_true, if_false]
  rfl

/-- Quiesce 0 to 1 (R160, R163). -/
theorem State.regWriteSettle_quiesce (h₄ : v[4] = false) (h₅ : v[5] = false) (h₆ : v[6] = false) (h₇ : v[7] = false)
    (h₀ : v[0] = true) (hq : s.device.quiesce = false) (hp : s.device.power = .active ∨ s.device.power = .doze) :
    s.regWriteSettle .deviceControl v = State.settleClose { s.acknowledged with
      device := { s.device.touched with quiesce := true, irqEnable := v[1], power := .quiescing } } := by
  refine State.regWriteSettle_accepted h₇ (.quiesce h₄ h₅ h₆ h₀ hq hp) ?_
  simp only [State.controlEffect, dcQuiesce, dcIrqEnable, dcDormant, dcWake, dcSoftInit, State.woken_quiesce, hq,
    h₀, h₄, h₅, h₆, Bool.false_eq_true, if_false, if_true]
  rfl

/-- Dormant (R160, R167). -/
theorem State.regWriteSettle_dormant (h₄ : v[4] = true) (h₅ : v[5] = false) (h₆ : v[6] = false) (h₇ : v[7] = false)
    (h₀ : v[0] = s.device.quiesce) (hp : s.device.power = .quiesced) (hf : s.engine.fatal = false) :
    s.regWriteSettle .deviceControl v = State.settleClose { s.acknowledged with
      device := { s.device.touched with irqEnable := v[1], power := .dormantEntry, dormantStep := .waiting } } := by
  refine State.regWriteSettle_accepted h₇ (.dormant h₄ h₅ h₆ h₀ hp hf) ?_
  simp only [State.controlEffect, dcIrqEnable, dcDormant, dcSoftInit, h₄, h₆,
    Bool.false_eq_true, if_false, if_true]
  rfl

/-- Wake (R160, R168). -/
theorem State.regWriteSettle_wake (h₄ : v[4] = false) (h₅ : v[5] = true) (h₆ : v[6] = false) (h₇ : v[7] = false)
    (h₀ : v[0] = s.device.quiesce) (hp : s.device.power = .dormant) : s.regWriteSettle .deviceControl v =
      State.settleClose { s.acknowledged with
        device := { s.device.touched with irqEnable := v[1], power := .waking } } := by
  refine State.regWriteSettle_accepted h₇ (.wake h₄ h₅ h₆ h₀ hp) ?_
  simp only [State.controlEffect, dcIrqEnable, dcDormant, dcWake, dcSoftInit, h₄, h₅, h₆,
    Bool.false_eq_true, if_false, if_true]
  rfl

/-- Settles O29: Quiescing ends as soon as R164 allows (`State.isStill_iff`), and the word of QUIESCE is accepted by the
row of the table that its Quiesce bit names. -/
theorem quiesceRequest : Obligations.QuiesceRequest := by
  refine ⟨?_, fun s w h₄ h₅ h₆ h₇ => ?_⟩
  · intro s still
    have hends : (s.device.power == .quiescing && s.isStill) = true ↔ s.device.power = .quiescing ∧ still := by
      rw [Bool.and_eq_true, beq_iff_eq, s.isStill_iff]
    rw [State.quiescingDone]
    refine ⟨fun hp hstill => ?_, fun hnot => ?_⟩
    · rw [if_pos (hends.2 ⟨hp, hstill⟩)]
      rfl
    · rw [if_neg (mt hends.1 (not_and_or.2 hnot))]
  · have hset := getElem_withBit_same w 0
    have hkept {i : Fin 32} (hi : i ≠ 0) := getElem_withBit_ne w hi
    have hirq : (withBit w 0)[1] = w[1] := hkept (i := 1) (by decide)
    replace h₄ := (hkept (i := 4) (by decide)).trans h₄
    replace h₅ := (hkept (i := 5) (by decide)).trans h₅
    replace h₆ := (hkept (i := 6) (by decide)).trans h₆
    replace h₇ := (hkept (i := 7) (by decide)).trans h₇
    rw [exec_quiesce, execQuiesce, ← hirq]
    exact ⟨fun hq hp => congrArg _ (State.regWriteSettle_quiesce h₄ h₅ h₆ h₇ hset hq hp),
      fun hq => congrArg _ (State.regWriteSettle_unchanged h₄ h₅ h₆ h₇ (hset.trans hq.symm))⟩

/-- Settles O31: the words of DORMANT and WAKE are accepted by the row of the table that they name. -/
theorem dormantAndWake : Obligations.DormantAndWake := by
  intro s w h₆ h₇ d
  refine ⟨fun h₅ h₀ hp hf => ?_, fun h₄ h₀ hp => ?_, fun hp => ?_, fun hp => ?_⟩
  · have hkept {i : Fin 32} (hi : i ≠ 4) := getElem_withBit_ne w hi
    have hirq : (withBit w 4)[1] = w[1] := hkept (i := 1) (by decide)
    rw [exec_dormant, execDormant, ← hirq]
    exact congrArg _ (State.regWriteSettle_dormant (getElem_withBit_same w 4) ((hkept (i := 5) (by decide)).trans h₅)
      ((hkept (i := 6) (by decide)).trans h₆) ((hkept (i := 7) (by decide)).trans h₇)
      ((hkept (i := 0) (by decide)).trans h₀) hp hf)
  · have hkept {i : Fin 32} (hi : i ≠ 5) := getElem_withBit_ne w hi
    have hirq : (withBit w 5)[1] = w[1] := hkept (i := 1) (by decide)
    rw [exec_wake, execWake, ← hirq]
    exact congrArg _ (State.regWriteSettle_wake ((hkept (i := 4) (by decide)).trans h₄) (getElem_withBit_same w 5)
      ((hkept (i := 6) (by decide)).trans h₆) ((hkept (i := 7) (by decide)).trans h₇)
      ((hkept (i := 0) (by decide)).trans h₀) hp)
  · rw [exec_wakeComplete, execWakeComplete, if_pos (beq_iff_eq.2 hp)]
    rfl
  · rw [exec_wakeComplete, execWakeComplete, if_neg (mt beq_iff_eq.1 hp)]
    rfl

end Sys2Proof.Machine
end
